-- ==== Sys2Proof/Word.lean ====
section
/-! DEFINITION. The widths of the SuperZ80 core block's values (spec/00_scope.md R9). -/

namespace Sys2Proof

/-- `u8`: a byte of an IO transaction, of VRAM, of the palette, of work RAM (R9, R93). -/
abbrev Byte := BitVec 8

/-- `u16`: a CPU memory address or a DMA register (R80, R47). -/
abbrev Half := BitVec 16

/-- `u32`, an ARGB8888 colour (R36, R42). -/
abbrev Argb := BitVec 32

/-- `i16`, one audio sample; the block moves samples and never computes with them (R52). -/
abbrev Sample := BitVec 16

/-- The packed form of one CPU IO transaction: bit 16 direction, bits 15:8 port, bits 7:0 data (R110). -/
abbrev IoWord := BitVec 17

end Sys2Proof
end

