-- ==== Sys2Proof/Syntax.lean ====
section
/-! DEFINITION. The operations of the SuperZ80 core block: one constructor per row of spec/opcode_table.json
(spec/00_scope.md R2, spec/30_encoding.md R110, R114), and the typed values their operands carry (R115). -/

namespace Sys2Proof

/-- One stereo frame of two int16 samples (R12 "Frame (audio)", R52). -/
structure Frame where
  l : Sample
  r : Sample
  deriving DecidableEq, Repr, Inhabited

/-- The host's buttons, the operand of `SET_HOST_BUTTONS`, in the spec's order (R197). -/
structure Buttons where
  up : Bool
  down : Bool
  left : Bool
  right : Bool
  a : Bool
  b : Bool
  start : Bool
  select : Bool
  deriving DecidableEq, Repr, Inhabited

/-- An operation as the agents issue it, before decoding: a CPU IO transaction is a 17-bit word (R110); a scheduler or
host operation is its 8-bit identifier followed by its packed arguments (R114; the packing of the arguments is the
model's own, DESIGN CHOICE, log entry 2). -/
inductive Request where
  | io (w : IoWord)
  | hook (bytes : List Byte)
  deriving DecidableEq, Repr, Inhabited

/-- The operations of the block. A read of a named port has no operand (its data byte is the result); a write carries
its data byte `v`; the rows that cover many ports carry the port. A scanline operand has the spec's range as its type
(R115: `n`, a scanline in [0, 261]; R300: 0 to 191 for `RENDER_SCANLINE`). -/
inductive Instr where
  /-- `IN_VDP_STATUS`: read of port 0x10 (R250). -/
  | inVdpStatus
  /-- `OUT_VDP_STATUS`: write of port 0x10 (R251). -/
  | outVdpStatus (v : Byte)
  /-- `IN_VDP_CTRL`: read of port 0x11 (R252). -/
  | inVdpCtrl
  /-- `OUT_VDP_CTRL`: write of port 0x11 (R253). -/
  | outVdpCtrl (v : Byte)
  /-- `IN_SCROLL_A_X`: read of port 0x12 (R254). -/
  | inScrollAX
  /-- `OUT_SCROLL_A_X`: write of port 0x12 (R255). -/
  | outScrollAX (v : Byte)
  /-- `IN_SCROLL_A_Y`: read of port 0x13 (R256). -/
  | inScrollAY
  /-- `OUT_SCROLL_A_Y`: write of port 0x13 (R257). -/
  | outScrollAY (v : Byte)
  /-- `IN_SCROLL_B_X`: read of port 0x14 (R258). -/
  | inScrollBX
  /-- `OUT_SCROLL_B_X`: write of port 0x14 (R259). -/
  | outScrollBX (v : Byte)
  /-- `IN_SCROLL_B_Y`: read of port 0x15 (R260). -/
  | inScrollBY
  /-- `OUT_SCROLL_B_Y`: write of port 0x15 (R261). -/
  | outScrollBY (v : Byte)
  /-- `IN_TMAP_A_BASE`: read of port 0x16 (R262). -/
  | inTmapABase
  /-- `OUT_TMAP_A_BASE`: write of port 0x16 (R263). -/
  | outTmapABase (v : Byte)
  /-- `IN_TMAP_B_BASE`: read of port 0x17 (R264). -/
  | inTmapBBase
  /-- `OUT_TMAP_B_BASE`: write of port 0x17 (R265). -/
  | outTmapBBase (v : Byte)
  /-- `IN_PAT_BASE`: read of port 0x18 (R266). -/
  | inPatBase
  /-- `OUT_PAT_BASE`: write of port 0x18 (R267). -/
  | outPatBase (v : Byte)
  /-- `IN_PAL_ADDR`: read of port 0x1E (R268). -/
  | inPalAddr
  /-- `OUT_PAL_ADDR`: write of port 0x1E (R271). -/
  | outPalAddr (v : Byte)
  /-- `IN_PAL_DATA`: read of port 0x1F (R269). -/
  | inPalData
  /-- `OUT_PAL_DATA`: write of port 0x1F (R270). -/
  | outPalData (v : Byte)
  /-- `IN_SPR_CTRL`: read of port 0x20 (R272). -/
  | inSprCtrl
  /-- `OUT_SPR_CTRL`: write of port 0x20 (R273). -/
  | outSprCtrl (v : Byte)
  /-- `IN_SAT_BASE`: read of port 0x21 (R274). -/
  | inSatBase
  /-- `OUT_SAT_BASE`: write of port 0x21 (R275). -/
  | outSatBase (v : Byte)
  /-- `IN_SPR_STATUS`: read of port 0x22 (R276). -/
  | inSprStatus
  /-- `OUT_SPR_STATUS`: write of port 0x22 (R277). -/
  | outSprStatus (v : Byte)
  /-- `IN_DMA_SRC_LO`: read of port 0x30 (R210). -/
  | inDmaSrcLo
  /-- `OUT_DMA_SRC_LO`: write of port 0x30 (R210). -/
  | outDmaSrcLo (v : Byte)
  /-- `IN_DMA_SRC_HI`: read of port 0x31 (R211). -/
  | inDmaSrcHi
  /-- `OUT_DMA_SRC_HI`: write of port 0x31 (R211). -/
  | outDmaSrcHi (v : Byte)
  /-- `IN_DMA_DST_LO`: read of port 0x32 (R212). -/
  | inDmaDstLo
  /-- `OUT_DMA_DST_LO`: write of port 0x32 (R212). -/
  | outDmaDstLo (v : Byte)
  /-- `IN_DMA_DST_HI`: read of port 0x33 (R213). -/
  | inDmaDstHi
  /-- `OUT_DMA_DST_HI`: write of port 0x33 (R213). -/
  | outDmaDstHi (v : Byte)
  /-- `IN_DMA_LEN_LO`: read of port 0x34 (R214). -/
  | inDmaLenLo
  /-- `OUT_DMA_LEN_LO`: write of port 0x34 (R214). -/
  | outDmaLenLo (v : Byte)
  /-- `IN_DMA_LEN_HI`: read of port 0x35 (R215). -/
  | inDmaLenHi
  /-- `OUT_DMA_LEN_HI`: write of port 0x35 (R215). -/
  | outDmaLenHi (v : Byte)
  /-- `IN_DMA_CTRL`: read of port 0x36 (R216). -/
  | inDmaCtrl
  /-- `OUT_DMA_CTRL`: write of port 0x36 (R217). -/
  | outDmaCtrl (v : Byte)
  /-- `IN_APU`: read of an APU port (R194). -/
  | inApu (port : Byte)
  /-- `OUT_APU`: write of an APU port (R194). -/
  | outApu (port v : Byte)
  /-- `IN_UNMAPPED_7E`: read of port 0x7E (R191). -/
  | inUnmapped7e
  /-- `OUT_UNMAPPED_7E`: write of port 0x7E (R192). -/
  | outUnmapped7e (v : Byte)
  /-- `IN_UNMAPPED_7F`: read of port 0x7F (R191). -/
  | inUnmapped7f
  /-- `OUT_UNMAPPED_7F`: write of port 0x7F (R192). -/
  | outUnmapped7f (v : Byte)
  /-- `IN_IRQ_STATUS`: read of port 0x80 (R170). -/
  | inIrqStatus
  /-- `OUT_IRQ_STATUS`: write of port 0x80 (R171). -/
  | outIrqStatus (v : Byte)
  /-- `IN_IRQ_ENABLE`: read of port 0x81 (R172). -/
  | inIrqEnable
  /-- `OUT_IRQ_ENABLE`: write of port 0x81 (R173). -/
  | outIrqEnable (v : Byte)
  /-- `IN_IRQ_ACK`: read of port 0x82 (R174). -/
  | inIrqAck
  /-- `OUT_IRQ_ACK`: write of port 0x82 (R175). -/
  | outIrqAck (v : Byte)
  /-- `IN_UNMAPPED`: read of a port with no register (R191). -/
  | inUnmapped (port : Byte)
  /-- `OUT_UNMAPPED`: write of a port with no register (R192). -/
  | outUnmapped (port v : Byte)
  /-- `POWER_ON`: host: allocate and reset (R391). -/
  | powerOn
  /-- `RESET`: host: reinitialise (R390). -/
  | reset
  /-- `LOAD_ROM`: host: copy a cartridge image (R393). -/
  | loadRom (bytes : List Byte)
  /-- `STEP_FRAME`: host: 262 scanline steps (R140). -/
  | stepFrame
  /-- `SCANLINE_STEP`: scheduler: one scanline (R131). -/
  | scanlineStep
  /-- `ON_SCANLINE_START`: scheduler: commit, VBlank, recompute (R133). -/
  | onScanlineStart (n : Fin 262)
  /-- `RENDER_SCANLINE`: scheduler: render a visible line (R300). -/
  | renderScanline (n : Fin 192)
  /-- `DMA_BOUNDARY`: scheduler: the DMA engine acts (R224). -/
  | dmaBoundary (n : Fin 262) (vblank : Bool) (frame : Nat)
  /-- `APU_ADVANCE`: scheduler: schedule and push audio frames (R342). -/
  | apuAdvance (cycles : Nat)
  /-- `IRQ_RAISE`: latch sources, no recompute (R161). -/
  | irqRaise (mask : Byte)
  /-- `IRQ_ACK`: clear sources, recompute (R162). -/
  | irqAck (mask : Byte)
  /-- `IRQ_WRITE_ENABLE`: set the enable mask, recompute (R163). -/
  | irqWriteEnable (mask : Byte)
  /-- `IRQ_READ_STATUS`: answer the pending mask (R164). -/
  | irqReadStatus
  /-- `IRQ_READ_ENABLE`: answer the enable mask (R165). -/
  | irqReadEnable
  /-- `IRQ_PRE_CPU_UPDATE`: recompute before the CPU slice (R167). -/
  | irqPreCpuUpdate
  /-- `IRQ_POST_CPU_UPDATE`: recompute after the CPU slice (R168). -/
  | irqPostCpuUpdate
  /-- `IRQ_INT_LINE_ASSERTED`: answer the last recomputed `/INT` (R166). -/
  | irqIntLineAsserted
  /-- `CPU_STEP`: run the external CPU for a budget (R138). -/
  | cpuStep (budget : Nat)
  /-- `RING_PUSH`: audio producer (R343). -/
  | ringPush (frames : List Frame)
  /-- `POP_AUDIO_FRAMES`: audio consumer (R344). -/
  | popAudioFrames (n : Nat)
  /-- `FRAMEBUFFER_READ`: host: the pixels (R316). -/
  | framebufferRead
  /-- `DMA_EXECUTE`: the copy itself (R223). -/
  | dmaExecute (src dst len : Half) (pal : Bool)
  /-- `SET_HOST_BUTTONS`: host: latch the buttons (R197). -/
  | setHostButtons (b : Buttons)
  deriving DecidableEq, Repr

end Sys2Proof
end

