-- ==== Sys2Proof/Config.lean ====
section
/-! DEFINITION. The parameters of the block: the constants the source fixes (spec/00_scope.md R7), the parameters it
leaves open, which the model takes as an argument (R8), and the free values of the agents whose behaviour the spec
leaves out (spec/00_scope.md R10, `draw`). -/

namespace Sys2Proof.Config

/-- `P_VRAM_SIZE` (R7): 48 KiB. -/
abbrev vramSize : Nat := 49152
/-- `P_PAL_ENTRIES` (R7). -/
abbrev palEntries : Nat := 128
/-- `P_SAT_ENTRIES` (R7). -/
abbrev satEntries : Nat := 48
/-- Bytes of one SAT entry (R7, R305). -/
abbrev satEntryBytes : Nat := 8
/-- `P_SPR_PER_LINE` (R7). -/
abbrev sprPerLine : Nat := 16
/-- `P_SPR_SIZE` (R7): sprites and tiles are 8 by 8 pixels. -/
abbrev sprSize : Nat := 8
/-- `P_FB_W` (R7). -/
abbrev fbWidth : Nat := 256
/-- `P_FB_H` (R7). -/
abbrev fbHeight : Nat := 192
/-- Columns of `P_TILEMAP` (R7). -/
abbrev tilemapColumns : Nat := 32
/-- `P_LINES` (R7): scanlines per frame. -/
abbrev lines : Nat := 262
/-- `P_VBLANK_LINE` (R7). -/
abbrev vblankLine : Nat := 192
/-- The scanline of the optional synthetic TIMER trigger (R137). -/
abbrev synthTimerLine : Nat := 10
/-- `P_WRAM_SIZE` (R7). -/
abbrev wramSize : Nat := 16384
/-- `P_ROM_MAX` (R7). -/
abbrev romMax : Nat := 32768
/-- `P_DEBUG_RING` (R7). -/
abbrev debugRing : Nat := 512

/-- `P_MASTER_HZ` (R7). -/
def masterHz : Rat := 21477270
/-- `P_CPU_HZ` = `P_MASTER_HZ / 4` (R7). -/
def cpuHz : Rat := masterHz / 4
/-- `P_LINE_HZ` = 15734.264 (R7). -/
def lineHz : Rat := 15734264 / 1000
/-- The default of `P_CPL`, by the formula `P_CPU_HZ / P_LINE_HZ` (R8, R130; 90_conflicts.md C1). -/
def defaultCpl : Rat := cpuHz / lineHz

/-- The derived and open parameters of the block, each an argument of the model (R8). -/
structure Params where
  /-- `P_CPL`: CPU T-states per scanline, a rational (R8, R130). -/
  cpl : Rat
  /-- `P_MAX_OVERSHOOT`: bound on the CPU's overshoot per slice (R8, R138). -/
  maxOvershoot : Nat
  /-- `P_SAMPLE_RATE`: audio frames per second (R8, R340). -/
  sampleRate : Nat
  /-- `P_RING_CAP`: ring slots, a power of two, at least 2 (R8, R347). -/
  ringCap : Nat
  /-- `P_IRQ_SPR_OVF`: a sprite overflow raises IRQ bit 0x08 (R8, R313). -/
  irqSprOvf : Bool
  /-- `P_IRQ_DMA_DONE`: a DMA execution raises IRQ bit 0x10 (R8, R225). -/
  irqDmaDone : Bool
  /-- `P_SYNTH_TIMER`: TIMER is raised at scanline 10 (R8, R137). -/
  synthTimer : Bool
  /-- `P_SPR_EVAL_WHEN_BLANK`: sprites are evaluated while the display is disabled (R8, R311). -/
  sprEvalWhenBlank : Bool
  deriving DecidableEq, Repr

/-- The defaults of R8. -/
def defaults : Params where
  cpl := defaultCpl
  maxOvershoot := 30
  sampleRate := 48000
  ringCap := 4096
  irqSprOvf := false
  irqDmaDone := false
  synthTimer := false
  sprEvalWhenBlank := false

/-- What R8, R130 and R347 ask of the open parameters: a positive line length; at least the exact stop allowed as an
overshoot (R138: `budget <= executed`); `P_RING_CAP` a power of two, at least 2, whose positions fit a `u32` (R52);
a positive sample rate, small enough that `cycles_per_sample_fp` is not 0 (R342's loop would not end otherwise). -/
structure Params.Valid (p : Params) : Prop where
  cpl_pos : 0 < p.cpl
  overshoot_pos : 1 ≤ p.maxOvershoot
  rate_pos : 1 ≤ p.sampleRate
  rate_bound : p.sampleRate ≤ 2 ^ 32
  cap_two : 2 ≤ p.ringCap
  cap_pow : ∃ k, p.ringCap = 2 ^ k
  cap_u32 : p.ringCap ≤ 2 ^ 32

/-- One write to an APU port, as the APU sees it: after how many generated frames, which port, which byte (R194, R341). -/
structure ApuWrite where
  afterFrames : Nat
  port : Byte
  data : Byte
  deriving DecidableEq, Repr, Inhabited

/-- `draw(apu_frames, k)`, frame by frame: a function of the APU port writes so far and of the number of frames
generated so far, and nothing else is known of it (R341, I13). Free value, log entry 8. -/
opaque apuFrame : List ApuWrite → Nat → Frame

/-- `draw(apu_io_read, port)`: the byte the APU supplies, given the writes so far and the number of reads drawn so far
(R194, I6). Free value, log entry 9. -/
opaque apuIoRead : List ApuWrite → Nat → Byte → Byte

end Sys2Proof.Config
end

