-- ==== Sys2Proof/WellFormed.lean ====
section
/-! DEFINITION. Which operations the opcode table has: the rows that cover many ports carry a port, and only the ports
of the row belong to it (spec/42_bus_io.md R191, R193, R194). Every other operand takes every value of its type. -/

namespace Sys2Proof

/-- The APU's ports 0x60 to 0x7D (R112, R194). -/
def apuPort (p : Byte) : Bool := 0x60 ≤ p.toNat && p.toNat ≤ 0x7D

/-- The ports the default rows answer for: the unmapped ports of R191 but 0x7E and 0x7F, which have rows of their own
(R193), and the reserved ports of the block's apertures (R280, R281). -/
def unmappedPort (p : Byte) : Bool :=
  p.toNat ≤ 0x0F || (0x19 ≤ p.toNat && p.toNat ≤ 0x1D) || (0x23 ≤ p.toNat && p.toNat ≤ 0x2F) ||
    (0x37 ≤ p.toNat && p.toNat ≤ 0x5F) || 0x83 ≤ p.toNat

/-- The operation is one of the opcode table's. -/
def Instr.wellFormed : Instr → Bool
  | .inVdpStatus => true
  | .outVdpStatus _ => true
  | .inVdpCtrl => true
  | .outVdpCtrl _ => true
  | .inScrollAX => true
  | .outScrollAX _ => true
  | .inScrollAY => true
  | .outScrollAY _ => true
  | .inScrollBX => true
  | .outScrollBX _ => true
  | .inScrollBY => true
  | .outScrollBY _ => true
  | .inTmapABase => true
  | .outTmapABase _ => true
  | .inTmapBBase => true
  | .outTmapBBase _ => true
  | .inPatBase => true
  | .outPatBase _ => true
  | .inPalAddr => true
  | .outPalAddr _ => true
  | .inPalData => true
  | .outPalData _ => true
  | .inSprCtrl => true
  | .outSprCtrl _ => true
  | .inSatBase => true
  | .outSatBase _ => true
  | .inSprStatus => true
  | .outSprStatus _ => true
  | .inDmaSrcLo => true
  | .outDmaSrcLo _ => true
  | .inDmaSrcHi => true
  | .outDmaSrcHi _ => true
  | .inDmaDstLo => true
  | .outDmaDstLo _ => true
  | .inDmaDstHi => true
  | .outDmaDstHi _ => true
  | .inDmaLenLo => true
  | .outDmaLenLo _ => true
  | .inDmaLenHi => true
  | .outDmaLenHi _ => true
  | .inDmaCtrl => true
  | .outDmaCtrl _ => true
  | .inApu port => apuPort port
  | .outApu port _ => apuPort port
  | .inUnmapped7e => true
  | .outUnmapped7e _ => true
  | .inUnmapped7f => true
  | .outUnmapped7f _ => true
  | .inIrqStatus => true
  | .outIrqStatus _ => true
  | .inIrqEnable => true
  | .outIrqEnable _ => true
  | .inIrqAck => true
  | .outIrqAck _ => true
  | .inUnmapped port => unmappedPort port
  | .outUnmapped port _ => unmappedPort port
  | .powerOn => true
  | .reset => true
  | .loadRom _ => true
  | .stepFrame => true
  | .scanlineStep => true
  | .onScanlineStart _ => true
  | .renderScanline _ => true
  | .dmaBoundary _ _ _ => true
  | .apuAdvance _ => true
  | .irqRaise _ => true
  | .irqAck _ => true
  | .irqWriteEnable _ => true
  | .irqReadStatus => true
  | .irqReadEnable => true
  | .irqPreCpuUpdate => true
  | .irqPostCpuUpdate => true
  | .irqIntLineAsserted => true
  | .cpuStep _ => true
  | .ringPush _ => true
  | .popAudioFrames _ => true
  | .framebufferRead => true
  | .dmaExecute _ _ _ _ => true
  | .setHostButtons _ => true

end Sys2Proof
end

