-- ==== Sys2Proof/Decode.lean ====
section
/-! DEFINITION. Decoding and encoding of operations. Format IO: the 56 rows of spec/opcode_table.json and the rule that
selects one of them (spec/30_encoding.md R110, R113). Format HOOK: the identifiers of R114, followed by the arguments
in the model's own packing (DESIGN CHOICE, log entry 2: the spec types the arguments and gives them no bits). -/

namespace Sys2Proof

/-! ## Format IO -/

/-- Bit 16 of a packed transaction: 1 is a write (R110). -/
def IoWord.isWrite (w : IoWord) : Bool := w.getLsbD 16

/-- Bits 15:8, the port number (R110). -/
def IoWord.port (w : IoWord) : Byte := w.extractLsb' 8 8

/-- Bits 7:0, the data byte: the operand of a write (R110). -/
def IoWord.data (w : IoWord) : Byte := w.extractLsb' 0 8

/-- The packed transaction of a direction, a port and a data byte (R110). -/
def ioWord (isWrite : Bool) (port data : Byte) : IoWord := BitVec.ofBool isWrite ++ port ++ data

/-- A row of the opcode table in format IO: its `match`, its `mask`, and the operation it stands for, given the
transaction's port and data byte. -/
structure IoRow where
  pattern : IoWord
  mask : IoWord
  build : Byte → Byte → Instr

/-- The rows of the PPU and sprite ports 0x10 to 0x2F (44_ppu_io.md). -/
def ppuRows : List IoRow := [
  ⟨0x01000#17, 0x1FF00#17, fun _ _ => .inVdpStatus⟩,
  ⟨0x11000#17, 0x1FF00#17, fun _ v => .outVdpStatus v⟩,
  ⟨0x01100#17, 0x1FF00#17, fun _ _ => .inVdpCtrl⟩,
  ⟨0x11100#17, 0x1FF00#17, fun _ v => .outVdpCtrl v⟩,
  ⟨0x01200#17, 0x1FF00#17, fun _ _ => .inScrollAX⟩,
  ⟨0x11200#17, 0x1FF00#17, fun _ v => .outScrollAX v⟩,
  ⟨0x01300#17, 0x1FF00#17, fun _ _ => .inScrollAY⟩,
  ⟨0x11300#17, 0x1FF00#17, fun _ v => .outScrollAY v⟩,
  ⟨0x01400#17, 0x1FF00#17, fun _ _ => .inScrollBX⟩,
  ⟨0x11400#17, 0x1FF00#17, fun _ v => .outScrollBX v⟩,
  ⟨0x01500#17, 0x1FF00#17, fun _ _ => .inScrollBY⟩,
  ⟨0x11500#17, 0x1FF00#17, fun _ v => .outScrollBY v⟩,
  ⟨0x01600#17, 0x1FF00#17, fun _ _ => .inTmapABase⟩,
  ⟨0x11600#17, 0x1FF00#17, fun _ v => .outTmapABase v⟩,
  ⟨0x01700#17, 0x1FF00#17, fun _ _ => .inTmapBBase⟩,
  ⟨0x11700#17, 0x1FF00#17, fun _ v => .outTmapBBase v⟩,
  ⟨0x01800#17, 0x1FF00#17, fun _ _ => .inPatBase⟩,
  ⟨0x11800#17, 0x1FF00#17, fun _ v => .outPatBase v⟩,
  ⟨0x01E00#17, 0x1FF00#17, fun _ _ => .inPalAddr⟩,
  ⟨0x11E00#17, 0x1FF00#17, fun _ v => .outPalAddr v⟩,
  ⟨0x01F00#17, 0x1FF00#17, fun _ _ => .inPalData⟩,
  ⟨0x11F00#17, 0x1FF00#17, fun _ v => .outPalData v⟩,
  ⟨0x02000#17, 0x1FF00#17, fun _ _ => .inSprCtrl⟩,
  ⟨0x12000#17, 0x1FF00#17, fun _ v => .outSprCtrl v⟩,
  ⟨0x02100#17, 0x1FF00#17, fun _ _ => .inSatBase⟩,
  ⟨0x12100#17, 0x1FF00#17, fun _ v => .outSatBase v⟩,
  ⟨0x02200#17, 0x1FF00#17, fun _ _ => .inSprStatus⟩,
  ⟨0x12200#17, 0x1FF00#17, fun _ v => .outSprStatus v⟩]

/-- The rows of the DMA ports 0x30 to 0x36 (43_dma.md). -/
def dmaRows : List IoRow := [
  ⟨0x03000#17, 0x1FF00#17, fun _ _ => .inDmaSrcLo⟩,
  ⟨0x13000#17, 0x1FF00#17, fun _ v => .outDmaSrcLo v⟩,
  ⟨0x03100#17, 0x1FF00#17, fun _ _ => .inDmaSrcHi⟩,
  ⟨0x13100#17, 0x1FF00#17, fun _ v => .outDmaSrcHi v⟩,
  ⟨0x03200#17, 0x1FF00#17, fun _ _ => .inDmaDstLo⟩,
  ⟨0x13200#17, 0x1FF00#17, fun _ v => .outDmaDstLo v⟩,
  ⟨0x03300#17, 0x1FF00#17, fun _ _ => .inDmaDstHi⟩,
  ⟨0x13300#17, 0x1FF00#17, fun _ v => .outDmaDstHi v⟩,
  ⟨0x03400#17, 0x1FF00#17, fun _ _ => .inDmaLenLo⟩,
  ⟨0x13400#17, 0x1FF00#17, fun _ v => .outDmaLenLo v⟩,
  ⟨0x03500#17, 0x1FF00#17, fun _ _ => .inDmaLenHi⟩,
  ⟨0x13500#17, 0x1FF00#17, fun _ v => .outDmaLenHi v⟩,
  ⟨0x03600#17, 0x1FF00#17, fun _ _ => .inDmaCtrl⟩,
  ⟨0x13600#17, 0x1FF00#17, fun _ v => .outDmaCtrl v⟩]

/-- The rows of the APU and IRQ ports, of 0x7E and 0x7F, and the two default rows (42_bus_io.md, 41_irq.md). -/
def busRows : List IoRow := [
  ⟨0x06000#17, 0x1E000#17, fun p _ => .inApu p⟩,
  ⟨0x16000#17, 0x1E000#17, fun p v => .outApu p v⟩,
  ⟨0x07E00#17, 0x1FF00#17, fun _ _ => .inUnmapped7e⟩,
  ⟨0x17E00#17, 0x1FF00#17, fun _ v => .outUnmapped7e v⟩,
  ⟨0x07F00#17, 0x1FF00#17, fun _ _ => .inUnmapped7f⟩,
  ⟨0x17F00#17, 0x1FF00#17, fun _ v => .outUnmapped7f v⟩,
  ⟨0x08000#17, 0x1FF00#17, fun _ _ => .inIrqStatus⟩,
  ⟨0x18000#17, 0x1FF00#17, fun _ v => .outIrqStatus v⟩,
  ⟨0x08100#17, 0x1FF00#17, fun _ _ => .inIrqEnable⟩,
  ⟨0x18100#17, 0x1FF00#17, fun _ v => .outIrqEnable v⟩,
  ⟨0x08200#17, 0x1FF00#17, fun _ _ => .inIrqAck⟩,
  ⟨0x18200#17, 0x1FF00#17, fun _ v => .outIrqAck v⟩,
  ⟨0x00000#17, 0x10000#17, fun p _ => .inUnmapped p⟩,
  ⟨0x10000#17, 0x10000#17, fun p v => .outUnmapped p v⟩]

/-- The rows of format IO. -/
def ioRows : List IoRow := ppuRows ++ dmaRows ++ busRows

/-- How many bits a mask sets (R113). -/
def maskWeight (m : IoWord) : Nat := ((List.range 17).filter fun i => m.getLsbD i).length

/-- The better of the best row so far and a row that matches: the one whose mask has more bits (R113). -/
def betterRow (best : Option IoRow) (r : IoRow) : Option IoRow :=
  match best with
  | none => some r
  | some b => if maskWeight b.mask < maskWeight r.mask then some r else some b

/-- "A decoder selects the matching row whose `mask` has the most set bits" (R113). -/
def selectRow (w : IoWord) (rows : List IoRow) : Option IoRow :=
  rows.foldl (fun best r => if w &&& r.mask = r.pattern then betterRow best r else best) none

/-- The row of a direction and port. Every row's mask covers bits 16:8 only (R110), so the data byte, here 0, plays no
part. -/
def rowOf (dirPort : BitVec 9) : Option IoRow := selectRow (dirPort ++ (0 : Byte)) ioRows

/-- The operation of a packed transaction. The data bits of a read are its result and no operand (R110). -/
def decodeIo (w : IoWord) : Option Instr :=
  (rowOf (w.extractLsb' 8 9)).map fun r => r.build w.port w.data

/-! ## Format HOOK -/

/-- Why a request is no operation of the block. -/
inductive DecodeError where
  /-- No row matches a transaction; R113 says that this never happens. -/
  | noRow
  /-- A hook request without an identifier byte. -/
  | emptyHook
  /-- An identifier outside 0x01 to 0x17 (R114). -/
  | reservedHook (op : Byte)
  /-- The request ends inside its arguments. -/
  | truncated
  /-- A scanline outside the operand's range (R115, R300). -/
  | scanlineOutOfRange
  /-- A Bool argument that is neither 0 nor 1. -/
  | badBool
  /-- Bytes other than zero padding after the last argument. -/
  | trailingBytes
  deriving DecidableEq, Repr

/-- What a reader of hook arguments answers: the argument and the bytes after it. -/
abbrev Taken (α : Type) := Except DecodeError (α × List Byte)

/-- A `u8` argument (R115). -/
def takeByte : List Byte → Taken Byte
  | [] => .error .truncated
  | b :: t => .ok (b, t)

/-- A `u16` argument, low byte first. -/
def takeHalf : List Byte → Taken Half
  | lo :: hi :: t => .ok (hi ++ lo, t)
  | _ => .error .truncated

/-- A Bool argument, one byte 0 or 1. -/
def takeBool : List Byte → Taken Bool
  | [] => .error .truncated
  | b :: t => if b = 0 then .ok (false, t) else if b = 1 then .ok (true, t) else .error .badBool

/-- A `Nat` argument, unbounded (R115): seven bits a byte, least significant first, bit 7 set on every byte but the
last. -/
def takeNat : List Byte → Taken Nat
  | [] => .error .truncated
  | b :: t =>
    if b.toNat < 128 then .ok (b.toNat, t)
    else match takeNat t with
      | .ok (n, r) => .ok (b.toNat - 128 + 128 * n, r)
      | .error e => .error e

/-- `k` bytes: the image of `LOAD_ROM`. -/
def takeBytes : Nat → List Byte → Taken (List Byte)
  | 0, bs => .ok ([], bs)
  | _ + 1, [] => .error .truncated
  | k + 1, b :: t =>
    match takeBytes k t with
    | .ok (bs, r) => .ok (b :: bs, r)
    | .error e => .error e

/-- `k` stereo frames: left then right sample, each low byte first. -/
def takeFrames : Nat → List Byte → Taken (List Frame)
  | 0, bs => .ok ([], bs)
  | k + 1, ll :: lh :: rl :: rh :: t =>
    match takeFrames k t with
    | .ok (fs, r) => .ok (⟨lh ++ ll, rh ++ rl⟩ :: fs, r)
    | .error e => .error e
  | _ + 1, _ => .error .truncated

/-- A scanline in [0, 261] (R115), two bytes. -/
def takeScanline (bs : List Byte) : Taken (Fin 262) :=
  match takeHalf bs with
  | .ok (w, r) => if h : w.toNat < 262 then .ok (⟨w.toNat, h⟩, r) else .error .scanlineOutOfRange
  | .error e => .error e

/-- A visible scanline in [0, 191] (R300), one byte. -/
def takeVisibleLine (bs : List Byte) : Taken (Fin 192) :=
  match takeByte bs with
  | .ok (b, r) => if h : b.toNat < 192 then .ok (⟨b.toNat, h⟩, r) else .error .scanlineOutOfRange
  | .error e => .error e

/-- The eight buttons of `SET_HOST_BUTTONS`, bit 0 `up` to bit 7 `select` (R197's order). -/
def buttonsOf (b : Byte) : Buttons :=
  ⟨b.getLsbD 0, b.getLsbD 1, b.getLsbD 2, b.getLsbD 3, b.getLsbD 4, b.getLsbD 5, b.getLsbD 6, b.getLsbD 7⟩

/-- Apply a constructor to an argument that was read. -/
def Taken.build {α β : Type} (x : Taken α) (f : α → β) : Taken β :=
  match x with
  | .ok (a, r) => .ok (f a, r)
  | .error e => .error e

/-- Go on reading after an argument. -/
def Taken.andThen {α β : Type} (x : Taken α) (f : α → List Byte → Taken β) : Taken β :=
  match x with
  | .ok (a, r) => f a r
  | .error e => .error e

/-- The operation of an identifier (R114), its arguments read from the bytes after it. -/
def decodeHookOp (op : Byte) (args : List Byte) : Taken Instr :=
  match op.toNat with
  | 0x01 => .ok (.powerOn, args)
  | 0x02 => .ok (.reset, args)
  | 0x03 => (takeNat args).andThen fun k r => (takeBytes k r).build .loadRom
  | 0x04 => .ok (.stepFrame, args)
  | 0x05 => .ok (.scanlineStep, args)
  | 0x06 => (takeScanline args).build .onScanlineStart
  | 0x07 => (takeVisibleLine args).build .renderScanline
  | 0x08 =>
    (takeScanline args).andThen fun n r => (takeBool r).andThen fun v r => (takeNat r).build (.dmaBoundary n v)
  | 0x09 => (takeNat args).build .apuAdvance
  | 0x0A => (takeByte args).build .irqRaise
  | 0x0B => (takeByte args).build .irqAck
  | 0x0C => (takeByte args).build .irqWriteEnable
  | 0x0D => .ok (.irqReadStatus, args)
  | 0x0E => .ok (.irqReadEnable, args)
  | 0x0F => .ok (.irqPreCpuUpdate, args)
  | 0x10 => .ok (.irqPostCpuUpdate, args)
  | 0x11 => .ok (.irqIntLineAsserted, args)
  | 0x12 => (takeNat args).build .cpuStep
  | 0x13 => (takeNat args).andThen fun k r => (takeFrames k r).build .ringPush
  | 0x14 => (takeNat args).build .popAudioFrames
  | 0x15 => .ok (.framebufferRead, args)
  | 0x16 =>
    (takeHalf args).andThen fun src r => (takeHalf r).andThen fun dst r => (takeHalf r).andThen fun len r =>
      (takeBool r).build (.dmaExecute src dst len)
  | 0x17 => (takeByte args).build fun b => .setHostButtons (buttonsOf b)
  | _ => .error (.reservedHook op)

/-- The operation at the head of a hook request, and the bytes after it. -/
def decodeHook : List Byte → Taken Instr
  | [] => .error .emptyHook
  | op :: args => decodeHookOp op args

/-- The operation of a request, or why it is none. After a hook's last argument only zero padding may stand. -/
def decode : Request → Except DecodeError Instr
  | .io w =>
    match decodeIo w with
    | some i => .ok i
    | none => .error .noRow
  | .hook bytes =>
    match decodeHook bytes with
    | .ok (i, rest) => if rest.all (fun b => b == 0) then .ok i else .error .trailingBytes
    | .error e => .error e

/-! ## Requests from table words -/

/-- Zero padding that covers the arguments of every hook whose arguments are zero (`DMA_EXECUTE` takes seven bytes). -/
def hookPadding : List Byte := List.replicate 16 0

/-- The request whose bits are `w`, numbered as spec/opcode_table.json numbers them. A row of one byte is a hook
identifier, its arguments zeros; a wider row is the 17-bit word of format IO. No request where `w` has a bit beyond
its format's width. -/
def tableRequest (nbits w : Nat) : Option Request :=
  if nbits ≤ 8 then
    if w < 256 then some (.hook (BitVec.ofNat 8 w :: hookPadding)) else none
  else if w < 131072 then some (.io (BitVec.ofNat 17 w)) else none

/-- The operation the decoder reads from an opcode-table word. -/
def decodeTableWord (nbits w : Nat) : Option Instr :=
  match tableRequest nbits w with
  | some r =>
    match decode r with
    | .ok i => some i
    | .error _ => none
  | none => none

/-! ## The encoder -/

/-- A `u16` argument, low byte first. -/
def halfBytes (w : Half) : List Byte := [w.extractLsb' 0 8, w.extractLsb' 8 8]

/-- A Bool argument. -/
def boolByte (b : Bool) : Byte := if b then 1 else 0

/-- At most `fuel + 1` bytes of a `Nat` argument. -/
def natBytesFuel : Nat → Nat → List Byte
  | 0, n => [BitVec.ofNat 8 n]
  | fuel + 1, n =>
    if n < 128 then [BitVec.ofNat 8 n] else BitVec.ofNat 8 (128 + n % 128) :: natBytesFuel fuel (n / 128)

/-- A `Nat` argument: seven bits a byte, least significant first, bit 7 set on every byte but the last. -/
def natBytes (n : Nat) : List Byte := natBytesFuel n n

/-- Stereo frames: left then right sample, each low byte first. -/
def framesBytes : List Frame → List Byte
  | [] => []
  | f :: t => halfBytes f.l ++ halfBytes f.r ++ framesBytes t

/-- The eight buttons as one byte, bit 0 `up` to bit 7 `select`. -/
def buttonsByte (b : Buttons) : Byte :=
  BitVec.ofBool b.select ++ BitVec.ofBool b.start ++ BitVec.ofBool b.b ++ BitVec.ofBool b.a ++
    BitVec.ofBool b.right ++ BitVec.ofBool b.left ++ BitVec.ofBool b.down ++ BitVec.ofBool b.up

/-- The request of an operation. The data bits of a read are 0 (they are its result). -/
def encode : Instr → Request
  | .inVdpStatus => .io (ioWord false 0x10 0)
  | .outVdpStatus v => .io (ioWord true 0x10 v)
  | .inVdpCtrl => .io (ioWord false 0x11 0)
  | .outVdpCtrl v => .io (ioWord true 0x11 v)
  | .inScrollAX => .io (ioWord false 0x12 0)
  | .outScrollAX v => .io (ioWord true 0x12 v)
  | .inScrollAY => .io (ioWord false 0x13 0)
  | .outScrollAY v => .io (ioWord true 0x13 v)
  | .inScrollBX => .io (ioWord false 0x14 0)
  | .outScrollBX v => .io (ioWord true 0x14 v)
  | .inScrollBY => .io (ioWord false 0x15 0)
  | .outScrollBY v => .io (ioWord true 0x15 v)
  | .inTmapABase => .io (ioWord false 0x16 0)
  | .outTmapABase v => .io (ioWord true 0x16 v)
  | .inTmapBBase => .io (ioWord false 0x17 0)
  | .outTmapBBase v => .io (ioWord true 0x17 v)
  | .inPatBase => .io (ioWord false 0x18 0)
  | .outPatBase v => .io (ioWord true 0x18 v)
  | .inPalAddr => .io (ioWord false 0x1E 0)
  | .outPalAddr v => .io (ioWord true 0x1E v)
  | .inPalData => .io (ioWord false 0x1F 0)
  | .outPalData v => .io (ioWord true 0x1F v)
  | .inSprCtrl => .io (ioWord false 0x20 0)
  | .outSprCtrl v => .io (ioWord true 0x20 v)
  | .inSatBase => .io (ioWord false 0x21 0)
  | .outSatBase v => .io (ioWord true 0x21 v)
  | .inSprStatus => .io (ioWord false 0x22 0)
  | .outSprStatus v => .io (ioWord true 0x22 v)
  | .inDmaSrcLo => .io (ioWord false 0x30 0)
  | .outDmaSrcLo v => .io (ioWord true 0x30 v)
  | .inDmaSrcHi => .io (ioWord false 0x31 0)
  | .outDmaSrcHi v => .io (ioWord true 0x31 v)
  | .inDmaDstLo => .io (ioWord false 0x32 0)
  | .outDmaDstLo v => .io (ioWord true 0x32 v)
  | .inDmaDstHi => .io (ioWord false 0x33 0)
  | .outDmaDstHi v => .io (ioWord true 0x33 v)
  | .inDmaLenLo => .io (ioWord false 0x34 0)
  | .outDmaLenLo v => .io (ioWord true 0x34 v)
  | .inDmaLenHi => .io (ioWord false 0x35 0)
  | .outDmaLenHi v => .io (ioWord true 0x35 v)
  | .inDmaCtrl => .io (ioWord false 0x36 0)
  | .outDmaCtrl v => .io (ioWord true 0x36 v)
  | .inApu port => .io (ioWord false port 0)
  | .outApu port v => .io (ioWord true port v)
  | .inUnmapped7e => .io (ioWord false 0x7E 0)
  | .outUnmapped7e v => .io (ioWord true 0x7E v)
  | .inUnmapped7f => .io (ioWord false 0x7F 0)
  | .outUnmapped7f v => .io (ioWord true 0x7F v)
  | .inIrqStatus => .io (ioWord false 0x80 0)
  | .outIrqStatus v => .io (ioWord true 0x80 v)
  | .inIrqEnable => .io (ioWord false 0x81 0)
  | .outIrqEnable v => .io (ioWord true 0x81 v)
  | .inIrqAck => .io (ioWord false 0x82 0)
  | .outIrqAck v => .io (ioWord true 0x82 v)
  | .inUnmapped port => .io (ioWord false port 0)
  | .outUnmapped port v => .io (ioWord true port v)
  | .powerOn => .hook [0x01]
  | .reset => .hook [0x02]
  | .loadRom bytes => .hook (0x03 :: natBytes bytes.length ++ bytes)
  | .stepFrame => .hook [0x04]
  | .scanlineStep => .hook [0x05]
  | .onScanlineStart n => .hook (0x06 :: (halfBytes (BitVec.ofNat 16 n.val)))
  | .renderScanline n => .hook [0x07, BitVec.ofNat 8 n.val]
  | .dmaBoundary n vblank frame => .hook (0x08 :: (halfBytes (BitVec.ofNat 16 n.val) ++ boolByte vblank :: natBytes frame))
  | .apuAdvance cycles => .hook (0x09 :: natBytes cycles)
  | .irqRaise mask => .hook [0x0A, mask]
  | .irqAck mask => .hook [0x0B, mask]
  | .irqWriteEnable mask => .hook [0x0C, mask]
  | .irqReadStatus => .hook [0x0D]
  | .irqReadEnable => .hook [0x0E]
  | .irqPreCpuUpdate => .hook [0x0F]
  | .irqPostCpuUpdate => .hook [0x10]
  | .irqIntLineAsserted => .hook [0x11]
  | .cpuStep budget => .hook (0x12 :: natBytes budget)
  | .ringPush frames => .hook (0x13 :: natBytes frames.length ++ framesBytes frames)
  | .popAudioFrames n => .hook (0x14 :: natBytes n)
  | .framebufferRead => .hook [0x15]
  | .dmaExecute src dst len pal => .hook (0x16 :: halfBytes src ++ halfBytes dst ++ halfBytes len ++ [boolByte pal])
  | .setHostButtons b => .hook [0x17, buttonsByte b]

end Sys2Proof
end

