-- ==== Sys2Proof/Machine/State.lean ====
section
/-! DEFINITION. The state of the block (spec/10_state.md R22 to R58) as plain data, with the model's own interface to the
block's agents (R6), the faults and refusals of a step, and the state after reset (spec/70_reset_and_hazards.md R390,
R391). -/

namespace Sys2Proof.Machine

/-! ## Memories -/

/-- A byte memory: the listed addresses in strictly rising order, none holding what an unlisted address reads as
(`Memory.unlisted`, Machine/Memory.lean). VRAM, the two palettes and work RAM are such memories (R80). -/
abbrev Memory := List Host.Cell

/-- The framebuffer, `fb[n][x]`: 192 lines of 256 ARGB8888 pixels (R42). -/
abbrev Framebuffer := Vector (Vector Argb 256) 192

/-! ## The parts of the block's state -/

/-- One record of the scanline debug ring (R145). -/
structure ScanlineRecord where
  frame : Nat
  scanline : Fin 262
  cyclesThisLine : Nat
  accumulatorBefore : Rat
  accumulatorAfter : Rat
  deriving DecidableEq, Repr

/-- The scheduler (R23 to R27) and its two debug records (R56, R135, R145). -/
structure Scheduler where
  /-- `current_scanline`, always in [0, 261] (R23). -/
  currentScanline : Fin 262
  /-- `frame_counter` (R24). -/
  frameCounter : Nat
  /-- `cpu_cycle_accumulator`, an exact rational (R25). -/
  cpuCycleAccumulator : Rat
  /-- `cpu_cycle_debt` (R26). -/
  cpuCycleDebt : Nat
  /-- `total_tstates_executed` (R27). -/
  totalTstatesExecuted : Nat
  /-- The scanline debug ring, newest record first, at most `P_DEBUG_RING` records (R145). -/
  scanlineLog : List ScanlineRecord
  /-- `vblank_latch_line`, empty until the first `VBLANK_START` (R135). -/
  vblankLatchLine : Option Nat
  deriving DecidableEq, Repr

/-- The register record that exists twice, pending and active; every field an 8-bit latch (R29). -/
structure PpuRegs where
  vdpCtrl : Byte
  scrollAX : Byte
  scrollAY : Byte
  scrollBX : Byte
  scrollBY : Byte
  tmapABase : Byte
  tmapBBase : Byte
  patBase : Byte
  sprCtrl : Byte
  satBase : Byte
  deriving DecidableEq, Repr

/-- The PPU: registers, palettes, memories and flags (R29 to R42). -/
structure Ppu where
  /-- The CPU-visible register copy (R29). -/
  pending : PpuRegs
  /-- The renderer's register copy (R29). -/
  active : PpuRegs
  /-- `staged_pal`, 256 bytes (R34). -/
  stagedPal : Memory
  /-- `active_pal`, 256 bytes (R35). -/
  activePal : Memory
  /-- `active_argb`, the colours of the active palette (R36). -/
  activeArgb : Vector Argb 128
  /-- `pal_addr` (R37). -/
  palAddr : Byte
  /-- `vram`, 49152 bytes, the SAT among them (R38, R39). -/
  vram : Memory
  /-- `vblank`, the VBlank flag (R40). -/
  vblank : Bool
  /-- `spr_ovf_latch`, the sticky sprite-overflow latch (R41). -/
  sprOvfLatch : Bool
  /-- `fb` (R42). -/
  fb : Framebuffer
  deriving DecidableEq, Repr

/-- The IRQ controller (R44 to R46). -/
structure Irq where
  /-- `irq_pending` (R44). -/
  pending : Byte
  /-- `irq_enable` (R45). -/
  enable : Byte
  /-- `int_line`: the last recomputed value; true is an asserted (low) `/INT` (R46). -/
  intLine : Bool
  deriving DecidableEq, Repr

/-- The queued-request slot (R49). -/
structure DmaQueue where
  valid : Bool
  src : Half
  dst : Half
  len : Half
  dstIsPalette : Bool
  deriving DecidableEq, Repr

/-- The DMA engine (R47 to R50). -/
structure Dma where
  /-- `dma_src` (R47, ports 0x30 and 0x31). -/
  src : Half
  /-- `dma_dst` (R47, ports 0x32 and 0x33). -/
  dst : Half
  /-- `dma_len` (R47, ports 0x34 and 0x35). -/
  len : Half
  /-- `dma_ctrl` (R48, port 0x36). -/
  ctrl : Byte
  /-- `dma_queue` (R49). -/
  queue : DmaQueue
  /-- Debug flag (R50). -/
  lastTriggerWasQueued : Bool
  /-- Debug flag, sticky until reset (R50). -/
  lastIllegalStart : Bool
  deriving DecidableEq, Repr

/-- The audio timebase, the ring and its counters (R51 to R53). -/
structure Audio where
  /-- `apu_accum`, Q32.32 (R51). -/
  apuAccum : BitVec 64
  /-- `ring`, `P_RING_CAP` slots (R52). -/
  ring : List Frame
  /-- `write_pos`, in [0, P_RING_CAP), written by the producer (R52). -/
  writePos : BitVec 32
  /-- `read_pos`, in [0, P_RING_CAP), written by the consumer (R52). -/
  readPos : BitVec 32
  /-- `ring_overflow_frames` (R53). -/
  ringOverflowFrames : Nat
  /-- `ring_underruns` (R53). -/
  ringUnderruns : Nat
  deriving DecidableEq, Repr

/-! ## The agents outside the block -/

/-- One thing the external CPU does to the block or its memory during a slice (R138, R83, R176). -/
inductive CpuAction where
  /-- An IO read; the CPU drives a 16-bit IO address (R111). -/
  | input (addr : Half)
  /-- An IO write. -/
  | output (addr : Half) (v : Byte)
  /-- A memory read of CPU memory (R81). -/
  | load (addr : Half)
  /-- A memory write of CPU memory (R83). -/
  | store (addr : Half) (v : Byte)
  /-- A sampling of `/INT`, before an instruction (R176). -/
  | sampleInt
  deriving DecidableEq, Repr, Inhabited

/-- What a CPU action brings back to the CPU. -/
inductive CpuSeen where
  /-- A byte read from a port or from memory. -/
  | data (v : Byte)
  /-- The level of `/INT`: true is asserted. -/
  | intLine (asserted : Bool)
  deriving DecidableEq, Repr

/-- One draw of the external CPU (R138): what it does in a slice, in program order, and by how many T-states the slice
overshoots its budget, before the reduction to the contract's range (`overshootOf`, Machine/Cpu.lean). -/
structure CpuSlice where
  actions : List CpuAction
  overshoot : Nat
  deriving DecidableEq, Repr, Inhabited

/-- The value an operation returns to the agent that issued it. -/
inductive Reply where
  /-- Nothing has been returned yet. -/
  | none
  /-- A Bool: `POWER_ON`, `LOAD_ROM`, `IRQ_INT_LINE_ASSERTED`. -/
  | bool (b : Bool)
  /-- A byte: every IO read, `IRQ_READ_STATUS`, `IRQ_READ_ENABLE`. -/
  | byte (v : Byte)
  /-- A count: `CPU_STEP`, `RING_PUSH`, `POP_AUDIO_FRAMES`. -/
  | nat (n : Nat)
  /-- The pixels of `FRAMEBUFFER_READ`. -/
  | pixels (ps : List Argb)
  deriving DecidableEq, Repr

/-- The model's own interface to the agents of R6: what they have issued and not yet run, what they will do inside the
scheduler's steps, and what they were given back. No rule of the spec reads it; log entries 3 to 9
and 13. -/
structure Env where
  /-- The operations issued, in the total order of R98, oldest first. -/
  requests : List Request
  /-- The CPU's next slices; where it is empty the slice is a free value (R138). -/
  cpuTape : List CpuSlice
  /-- How many slices have been taken from the free value. -/
  cpuDraws : Nat
  /-- The frame counts the audio consumer pops during each of the next scanline steps; where it is empty they are a
  free value (R345). -/
  popTape : List (List Nat)
  /-- How many scanlines' pops have been taken from the free value. -/
  popDraws : Nat
  /-- The writes the APU has received (R194, R341). -/
  apuWrites : List Config.ApuWrite
  /-- How many frames the APU has generated (R341). -/
  apuFrames : Nat
  /-- How many bytes the APU has supplied to IO reads (R194). -/
  apuReads : Nat
  /-- The value the last value-returning operation returned. -/
  reply : Reply
  /-- What the CPU got back in its latest slice, in order. -/
  cpuSeen : List CpuSeen
  /-- The consumer's buffer `out` as the latest pop left it: interleaved samples, left first (R344). -/
  audioOut : List Sample
  /-- The Input component's latch, outside the block (R197). -/
  hostButtons : Buttons
  deriving DecidableEq, Repr

/-- The state: the argument of R8, the block (R22), the CPU memory it maps (R54, R55), and the agents' interface. -/
structure State where
  /-- The open parameters; no operation changes them (R8, R22). -/
  params : Config.Params
  sched : Scheduler
  ppu : Ppu
  irq : Irq
  dma : Dma
  audio : Audio
  /-- `wram`, 16384 bytes (R54). -/
  wram : Memory
  /-- `rom`; `rom_len` is its length (R55). -/
  rom : List Byte
  env : Env
  deriving DecidableEq, Repr

/-! ## Stops -/

/-- A fault of a step: there is none, "the block raises no synchronous exception, and no operation of it traps, faults or
stalls" (R360). Safe: a machine that never faults is what the spec describes, and the type proves it. -/
inductive Fault where
  deriving DecidableEq, Repr

/-- Why a step has no next state. -/
inductive Refusal where
  /-- An operation without a meaning. Raised by no arm of exec. Safe. -/
  | notModelled (mnemonic : String)
  /-- Raised by `step` where the oldest request decodes to no operation of R110 or R114. Safe: the spec has no such
  operation (R114, R115). -/
  | undecodable (e : DecodeError)
  deriving DecidableEq, Repr

/-- The three outcomes of an operation. -/
abbrev Outcome := Host.Outcome State Fault Refusal

/-! ## Reset -/

/-- R23 to R27, R56: zero and empty. -/
def Scheduler.reset : Scheduler where
  currentScanline := 0
  frameCounter := 0
  cpuCycleAccumulator := 0
  cpuCycleDebt := 0
  totalTstatesExecuted := 0
  scanlineLog := []
  vblankLatchLine := none

/-- R29: all ten fields 0x00. -/
def PpuRegs.reset : PpuRegs := ⟨0, 0, 0, 0, 0, 0, 0, 0, 0, 0⟩

/-- R29 to R41: zero, false and empty; every colour 0xFF000000 (R390); the framebuffer of power-on (R391). -/
def Ppu.reset : Ppu where
  pending := PpuRegs.reset
  active := PpuRegs.reset
  stagedPal := []
  activePal := []
  activeArgb := Vector.replicate 128 0xFF000000
  palAddr := 0
  vram := []
  vblank := false
  sprOvfLatch := false
  fb := Vector.replicate 192 (Vector.replicate 256 0)

/-- R44 to R46. -/
def Irq.reset : Irq := ⟨0, 0, false⟩

/-- R49. -/
def DmaQueue.reset : DmaQueue := ⟨false, 0, 0, 0, false⟩

/-- R47 to R50. -/
def Dma.reset : Dma where
  src := 0
  dst := 0
  len := 0
  ctrl := 0
  queue := DmaQueue.reset
  lastTriggerWasQueued := false
  lastIllegalStart := false

/-- R51 to R53 at power-on: `cap` silent slots, both positions and counters 0 (R391). -/
def Audio.powerOn (cap : Nat) : Audio where
  apuAccum := 0
  ring := List.replicate cap ⟨0, 0⟩
  writePos := 0
  readPos := 0
  ringOverflowFrames := 0
  ringUnderruns := 0

/-- The model's own interface before anything was issued (DESIGN CHOICE, log entry 7). -/
def Env.reset : Env where
  requests := []
  cpuTape := []
  cpuDraws := 0
  popTape := []
  popDraws := 0
  apuWrites := []
  apuFrames := 0
  apuReads := 0
  reply := .none
  cpuSeen := []
  audioOut := []
  hostButtons := ⟨false, false, false, false, false, false, false, false⟩

/-- The machine right after `POWER_ON`, which ends with `RESET` (R390, R391), at the default parameters of R8. -/
def State.reset : State where
  params := Config.defaults
  sched := Scheduler.reset
  ppu := Ppu.reset
  irq := Irq.reset
  dma := Dma.reset
  audio := Audio.powerOn Config.defaults.ringCap
  wram := []
  rom := []
  env := Env.reset

end Sys2Proof.Machine
end

