-- ==== Sys2Proof/Machine/Draws.lean ====
section
/-! DEFINITION. The free values whose arguments are parts of the state: what the agents outside the block do inside a
scanline step (spec/00_scope.md R6, R10 `draw`). Constants of the configuration without a body: nothing is known of
them. -/

namespace Sys2Proof.Config

open Sys2Proof.Machine

/-- What the CPU can see of the machine in a slice: what a port reads (R59), `/INT` and the controller (R176), ROM, work
RAM, and the APU's history (R6). Nothing else of the block is in it, no debug state above all: "None is readable by the CPU
through any port. None affects any other state" (R376). -/
structure CpuView where
  /-- The staged registers, ports 0x11 to 0x18, 0x20 and 0x21 (R59). -/
  pending : PpuRegs
  /-- Behind PAL_ADDR and PAL_DATA (R268, R270). -/
  stagedPal : Memory
  palAddr : Byte
  /-- Bit 0 of VDP_STATUS (R250). -/
  vblank : Bool
  /-- Bit 0 of SPR_STATUS (R276). -/
  sprOvfLatch : Bool
  irq : Irq
  /-- The DMA registers, ports 0x30 to 0x36 (R47, R48); neither the queue's slot nor a debug flag (R49, R50). -/
  dmaSrc : Half
  dmaDst : Half
  dmaLen : Half
  dmaCtrl : Byte
  wram : Memory
  rom : List Byte
  apuWrites : List ApuWrite
  apuReads : Nat

/-- `draw(cpu_executed, …)` and the CPU's transactions of one slice (R138, R146, I10): a function of the number of the
draw, of the budget, and of what the CPU can see. Free value, log entry 3. -/
opaque cpuSlice : Nat → Nat → CpuView → CpuSlice

/-- What the audio consumer can see: it "shares only the ring" (R378), its slots and both positions, and it holds the
underrun counter (R52, R53). The accumulator of the timebase is not in it: "`apu_accum` is seen only through the number of
frames pushed" (R57). -/
structure ConsumerView where
  ring : List Frame
  writePos : BitVec 32
  readPos : BitVec 32
  ringUnderruns : Nat

/-- The frame counts the audio consumer pops during one scanline step (R345, R407): a function of the number of the draw
and of what the consumer can see. Free value, log entry 4. -/
opaque consumerPops : Nat → ConsumerView → List Nat

end Sys2Proof.Config
end

