-- ==== Sys2Proof/Machine/Operands.lean ====
section
/-! DEFINITION. Operand forms and fields: the bytes of a 16-bit value (spec/20_memory.md R90), the port of a CPU IO address
(spec/30_encoding.md R111), tilemap entries, SAT entries and palette words (spec/45_ppu_render.md R302, R305, R312), and
registers selected by name (spec/10_state.md R29, R47). -/

namespace Sys2Proof.Machine

/-! ## Bytes of 16-bit values (R90) -/

/-- Bits 7:0. -/
def loByte (w : Half) : Byte := w.extractLsb' 0 8

/-- Bits 15:8. -/
def hiByte (w : Half) : Byte := w.extractLsb' 8 8

/-- The low byte written, the high byte "as it was" (R90). -/
def withLo (w : Half) (v : Byte) : Half := hiByte w ++ v

/-- The high byte written, the low byte as it was (R90). -/
def withHi (w : Half) (v : Byte) : Half := v ++ loByte w

/-- `lo | (hi << 8)`: the little-endian assembly of R86, R89 and R312. -/
def littleEndian (lo hi : Byte) : Half := hi ++ lo

/-! ## Addresses -/

/-- "The block decodes only A[7:0]" (R111). -/
def portOf (addr : Half) : Byte := addr.extractLsb' 0 8

/-- A tilemap or pattern base in 1 KiB units (R32). -/
def kibPage (base : Byte) : Nat := base.toNat * 1024

/-- The address of SAT entry `i` for a SAT base in 256-byte units (R39, R305). -/
def satEntryAddr (satBase : Byte) (i : Nat) : Nat := satBase.toNat * 256 + Config.satEntryBytes * i

/-! ## Fields of tilemap entries, SAT entries and palette words -/

/-- Bits 9:0 of a tilemap entry, the tile index (R302). -/
def tilemapTile (entry : Half) : Nat := (entry.extractLsb' 0 10).toNat

/-- The 12-bit tile index of SAT bytes 2 and 3 (R305). -/
def satTile (lo hi : Byte) : Nat := ((hi.extractLsb' 0 4) ++ lo : BitVec 12).toNat

/-- Attribute bits 3:0, the palette bank (R305). -/
def attrPalette (attr : Byte) : BitVec 4 := attr.extractLsb' 0 4

/-- Attribute bit 4, behind Plane A (R305). -/
def attrBehind (attr : Byte) : Bool := attr.getLsbD 4

/-- Attribute bit 5, flip X (R305). -/
def attrFlipX (attr : Byte) : Bool := attr.getLsbD 5

/-- Attribute bit 6, flip Y (R305). -/
def attrFlipY (attr : Byte) : Bool := attr.getLsbD 6

/-- Bits 2:0 of a palette word, red (R312). -/
def palRed (w : Half) : Nat := (w.extractLsb' 0 3).toNat

/-- Bits 5:3 of a palette word, green (R312). -/
def palGreen (w : Half) : Nat := (w.extractLsb' 3 3).toNat

/-- Bits 8:6 of a palette word, blue (R312). -/
def palBlue (w : Half) : Nat := (w.extractLsb' 6 3).toNat

/-- `X(c) = (c * 255) / 7`, floor division (R312; 92_eei_decisions.md D9). -/
def expandChannel (c : Nat) : Nat := c * 255 / 7

/-- The ARGB8888 colour of a palette word (R312). -/
def argbOfWord (w : Half) : Argb :=
  0xFF000000 ||| (BitVec.ofNat 32 (expandChannel (palRed w)) <<< 16) |||
    (BitVec.ofNat 32 (expandChannel (palGreen w)) <<< 8) ||| BitVec.ofNat 32 (expandChannel (palBlue w))

/-- `ARGB(e)`: the colour of entry `e` of a palette (R312). -/
def argb (pal : Memory) (e : Nat) : Argb :=
  argbOfWord (littleEndian (Memory.read pal (2 * e)) (Memory.read pal (2 * e + 1)))

/-! ## Registers by name -/

/-- The ten registers of R29. -/
inductive PpuReg where
  | vdpCtrl | scrollAX | scrollAY | scrollBX | scrollBY | tmapABase | tmapBBase | patBase | sprCtrl | satBase
  deriving DecidableEq, Repr

/-- A register of a copy. -/
def PpuRegs.get (r : PpuRegs) : PpuReg → Byte
  | .vdpCtrl => r.vdpCtrl
  | .scrollAX => r.scrollAX
  | .scrollAY => r.scrollAY
  | .scrollBX => r.scrollBX
  | .scrollBY => r.scrollBY
  | .tmapABase => r.tmapABase
  | .tmapBBase => r.tmapBBase
  | .patBase => r.patBase
  | .sprCtrl => r.sprCtrl
  | .satBase => r.satBase

/-- A register of a copy written: the latch "holds the whole byte written" (R29). -/
def PpuRegs.put (r : PpuRegs) (k : PpuReg) (v : Byte) : PpuRegs :=
  match k with
  | .vdpCtrl => { r with vdpCtrl := v }
  | .scrollAX => { r with scrollAX := v }
  | .scrollAY => { r with scrollAY := v }
  | .scrollBX => { r with scrollBX := v }
  | .scrollBY => { r with scrollBY := v }
  | .tmapABase => { r with tmapABase := v }
  | .tmapBBase => { r with tmapBBase := v }
  | .patBase => { r with patBase := v }
  | .sprCtrl => { r with sprCtrl := v }
  | .satBase => { r with satBase := v }

/-- The six byte latches of SRC, DST and LEN (R47). -/
inductive DmaReg where
  | srcLo | srcHi | dstLo | dstHi | lenLo | lenHi
  deriving DecidableEq, Repr

/-- A byte latch of the DMA engine (R210 to R215). -/
def Dma.get (d : Dma) : DmaReg → Byte
  | .srcLo => loByte d.src
  | .srcHi => hiByte d.src
  | .dstLo => loByte d.dst
  | .dstHi => hiByte d.dst
  | .lenLo => loByte d.len
  | .lenHi => hiByte d.len

/-- A byte latch of the DMA engine written; the other byte of its register stays (R90, R210 to R215). -/
def Dma.put (d : Dma) (k : DmaReg) (v : Byte) : Dma :=
  match k with
  | .srcLo => { d with src := withLo d.src v }
  | .srcHi => { d with src := withHi d.src v }
  | .dstLo => { d with dst := withLo d.dst v }
  | .dstHi => { d with dst := withHi d.dst v }
  | .lenLo => { d with len := withLo d.len v }
  | .lenHi => { d with len := withHi d.len v }

end Sys2Proof.Machine
end

