-- ==== Sys2Proof/Machine/Flags.lean ====
section
/-! DEFINITION. Flags and control bits (spec/10_state.md R30, R31, R44 to R48, R58). -/

namespace Sys2Proof.Machine

/-! ## IRQ source bits (R44) -/

/-- VBLANK. -/
def irqVblank : Byte := 0x01
/-- TIMER. -/
def irqTimer : Byte := 0x02
/-- SCANLINE; nothing in the block raises it (R365). -/
def irqScanline : Byte := 0x04
/-- SPR_OVERFLOW. -/
def irqSprOverflow : Byte := 0x08
/-- DMA_DONE. -/
def irqDmaDone : Byte := 0x10

/-- `(irq_pending & irq_enable) != 0` (R160). -/
def intAsserted (pending enable : Byte) : Bool := pending &&& enable != 0

/-- Write-1-to-clear (R162). -/
def clearBits (pending mask : Byte) : Byte := pending &&& ~~~mask

/-! ## Control bits -/

/-- VDP_CTRL bit 0, display enable (R30). -/
def displayEnabled (r : PpuRegs) : Bool := r.vdpCtrl.getLsbD 0

/-- VDP_CTRL bit 1, Plane B enable (R30). -/
def planeBEnabled (r : PpuRegs) : Bool := r.vdpCtrl.getLsbD 1

/-- SPR_CTRL bit 0, sprites enabled (R31). -/
def spritesEnabled (r : PpuRegs) : Bool := r.sprCtrl.getLsbD 0

/-- DMA CTRL bit 0, START (R48). -/
def dmaStart (ctrl : Byte) : Bool := ctrl.getLsbD 0

/-- DMA CTRL bit 1, QUEUE_IF_NOT_VBLANK (R48). -/
def dmaQueueIfNotVblank (ctrl : Byte) : Bool := ctrl.getLsbD 1

/-- DMA CTRL bit 3, DST_IS_PALETTE (R48). -/
def dmaDstIsPalette (ctrl : Byte) : Bool := ctrl.getLsbD 3

/-- `dma_ctrl[0] <- 0`, the auto-clear of START (R221). -/
def clearStart (ctrl : Byte) : Byte := ctrl &&& 0xFE

/-- BUSY, bit 7, is discarded on a write and reads 0 (R48, R216, R217). -/
def withoutBusy (ctrl : Byte) : Byte := ctrl &&& 0x7F

/-! ## Status bytes -/

/-- `zext_8(flag)`: the flag in bit 0, bits 7:1 zero (R250, R276). -/
def statusByte (flag : Bool) : Byte := if flag then 0x01 else 0x00

end Sys2Proof.Machine
end

