-- ==== Sys2Proof/Machine/Ops.lean ====
section
/-! DEFINITION. The named operations over memory and registers that the meanings share: the primitives of
spec/00_scope.md R10, the IRQ controller's operations (spec/41_irq.md R160 to R163; the block takes no exception of its
own, R360: what it has in its place is raising a source and recomputing `/INT`), the palette port (spec/44_ppu_io.md
R269, R270), the APU's ports (spec/42_bus_io.md R194), and the answers to the agents. -/

namespace Sys2Proof.Machine

/-! ## Answers -/

/-- Hand a value back to the agent that issued the operation. -/
def State.answer (s : State) (r : Reply) : State := { s with env.reply := r }

/-- Hand a byte back to the CPU: the data byte of an IO read (R110). -/
def State.answerByte (s : State) (v : Byte) : State := s.answer (.byte v)

/-! ## Memory primitives -/

/-- `VramRead` (R84). -/
def vramRead (vram : Memory) (a : Nat) : Byte := Memory.read vram (a % Config.vramSize)

/-- `VramRead16`: each byte wraps by itself (R86). -/
def vramRead16 (vram : Memory) (a : Nat) : Half := littleEndian (vramRead vram a) (vramRead vram (a + 1))

/-- `VramWrite` (R85). -/
def State.vramWrite (s : State) (a : Nat) (v : Byte) : State :=
  { s with ppu.vram := Memory.write s.ppu.vram (a % Config.vramSize) v }

/-- What a palette byte holds of a byte written to it: an odd byte keeps bit 0 only (R87). -/
def palMask (a v : Byte) : Byte := if a.getLsbD 0 then v &&& 0x01 else v

/-- `PalWriteByte`, to the staged palette (R87). -/
def State.palWriteByte (s : State) (a v : Byte) : State :=
  { s with ppu.stagedPal := Memory.write s.ppu.stagedPal a.toNat (palMask a v) }

/-- `PalReadByte`, from the staged palette (R88). -/
def State.palReadByte (s : State) (a : Byte) : Byte := Memory.read s.ppu.stagedPal a.toNat

/-- `MemRead`: ROM, open bus, work RAM (R81, R82). -/
def State.memRead (s : State) (a : Half) : Byte :=
  if a.toNat ≤ 0x7FFF then
    if a.toNat < s.rom.length then s.rom.getD a.toNat 0xFF else 0xFF
  else if a.toNat ≤ 0xBFFF then 0xFF
  else Memory.read s.wram (a.toNat - 0xC000)

/-- A CPU memory write: work RAM only (R83). -/
def State.memWrite (s : State) (a : Half) (v : Byte) : State :=
  if 0xC000 ≤ a.toNat then { s with wram := Memory.write s.wram (a.toNat - 0xC000) v } else s

/-! ## IRQ controller -/

/-- `Recompute()` (R160). -/
def State.recompute (s : State) : State := { s with irq.intLine := intAsserted s.irq.pending s.irq.enable }

/-- `Raise(mask)`, without a recompute (R161). -/
def State.raise (s : State) (mask : Byte) : State := { s with irq.pending := s.irq.pending ||| mask }

/-- `if <parameter>: Raise(mask)`, the form of the optional raisers (R137, R225, R313). -/
def State.raiseIf (s : State) (c : Bool) (mask : Byte) : State := if c then s.raise mask else s

/-- `IRQ_ACK(mask)` (R162). -/
def State.irqAck (s : State) (mask : Byte) : State :=
  State.recompute { s with irq.pending := clearBits s.irq.pending mask }

/-- `IRQ_WRITE_ENABLE(mask)` (R163). -/
def State.irqWriteEnable (s : State) (mask : Byte) : State := State.recompute { s with irq.enable := mask }

/-! ## Registers -/

/-- A PPU or sprite register port written: `pending` only (R253 to R275). -/
def State.writePending (s : State) (k : PpuReg) (v : Byte) : State :=
  { s with ppu.pending := s.ppu.pending.put k v }

/-- A PPU or sprite register port read: the `pending` byte (R252 to R274). -/
def State.readPending (s : State) (k : PpuReg) : Byte := s.ppu.pending.get k

/-- PAL_ADDR written, at once (R271). -/
def State.writePalAddr (s : State) (v : Byte) : State := { s with ppu.palAddr := v }

/-- PAL_ADDR stepped, modulo 256 (R269, R270). -/
def State.bumpPalAddr (s : State) : State := { s with ppu.palAddr := s.ppu.palAddr + 1 }

/-- PAL_DATA written (R270). -/
def State.writePalData (s : State) (v : Byte) : State := (s.palWriteByte s.ppu.palAddr v).bumpPalAddr

/-- A DMA byte latch written (R210 to R215). -/
def State.writeDmaReg (s : State) (k : DmaReg) (v : Byte) : State := { s with dma := s.dma.put k v }

/-- DMA CTRL written: BUSY discarded, nothing started (R217). -/
def State.writeDmaCtrl (s : State) (v : Byte) : State := { s with dma.ctrl := withoutBusy v }

/-! ## The APU's ports -/

/-- A write forwarded to the APU: no block state changes (R194). -/
def State.apuWrite (s : State) (port v : Byte) : State :=
  { s with env.apuWrites := s.env.apuWrites ++ [⟨s.env.apuFrames, port, v⟩] }

/-- The byte the APU supplies to a read, a free value (R194). -/
def State.apuByte (s : State) (port : Byte) : Byte := Config.apuIoRead s.env.apuWrites s.env.apuReads port

/-- A read drawn from the APU. -/
def State.apuReadDrawn (s : State) : State := { s with env.apuReads := s.env.apuReads + 1 }

end Sys2Proof.Machine
end

