-- ==== Sys2Proof/Machine/Console.lean ====
section
/-! DEFINITION. The host's operations: power-on, reset and ROM loading (spec/70_reset_and_hazards.md R390 to R393). -/

namespace Sys2Proof.Machine

/-- `RESET()` (R390): everything but the framebuffer, the ROM, the ring with its positions, `ring_underruns`, and what is
not the block's (the parameters and the agents' interface). -/
def State.resetBlock (s : State) : State :=
  { s with
    sched := Scheduler.reset
    ppu := { Ppu.reset with fb := s.ppu.fb }
    irq := Irq.reset
    dma := Dma.reset
    audio := { s.audio with apuAccum := 0, ringOverflowFrames := 0 }
    wram := [] }

/-- `RESET` (R390). -/
def execReset (s : State) : Outcome := .next s.resetBlock

/-- `POWER_ON`: the framebuffer, the ring and the ROM emptied, then `RESET`; true (R391). -/
def execPowerOn (s : State) : Outcome :=
  .next
    ((State.resetBlock
        { s with
          ppu.fb := Ppu.reset.fb
          audio := Audio.powerOn s.params.ringCap
          rom := [] }).answer (.bool true))

/-- `LOAD_ROM(bytes)`: an image over 32768 bytes is refused with the answer false, the state unchanged (R393). -/
def execLoadRom (bytes : List Byte) (s : State) : Outcome :=
  if Config.romMax < bytes.length then .next (s.answer (.bool false))
  else .next (State.answer { s with rom := bytes } (.bool true))

end Sys2Proof.Machine
end

