-- ==== Sys2Proof/Machine/Audio.lean ====
section
/-! DEFINITION. The audio timebase and the single-producer single-consumer ring (spec/46_audio_ring.md). -/

namespace Sys2Proof.Machine

/-! ## The ring (R343, R344, R346) -/

/-- `fill = (write_pos - read_pos) mod P_RING_CAP` (R52, R346). -/
def Audio.fill (a : Audio) (cap : Nat) : Nat := (((a.writePos.toNat : Int) - a.readPos.toNat) % cap).toNat

/-- `free = (P_RING_CAP - 1) - fill` (R343). -/
def Audio.free (a : Audio) (cap : Nat) : Nat := cap - 1 - a.fill cap

/-- The slot of a position, modulo the capacity. -/
def Audio.slot (a : Audio) (cap pos : Nat) : Frame := a.ring.getD (pos % cap) ⟨0, 0⟩

/-- Frames written into consecutive slots from a position on, modulo the capacity (R343). -/
def writeSlots (cap : Nat) : List Frame → Nat → List Frame → List Frame
  | [], _, ring => ring
  | f :: fs, pos, ring => writeSlots cap fs (pos + 1) (ring.set (pos % cap) f)

/-- How many of `count` frames a push stores (R343). -/
def Audio.pushCount (a : Audio) (cap count : Nat) : Nat := min count (a.free cap)

/-- `RING_PUSH(frames)`: what fits is written, the rest is dropped (R343). -/
def Audio.push (a : Audio) (cap : Nat) (frames : List Frame) : Audio :=
  let k := a.pushCount cap frames.length
  { a with
    ring := writeSlots cap (frames.take k) a.writePos.toNat a.ring
    writePos := BitVec.ofNat 32 ((a.writePos.toNat + k) % cap) }

/-- How many of `n` requested frames a pop returns (R344). -/
def Audio.popCount (a : Audio) (cap n : Nat) : Nat := min n (a.fill cap)

/-- The caller's buffer after a pop of `n`: interleaved samples, left first, the shortfall zero-filled (R344). -/
def Audio.popBuffer (a : Audio) (cap n : Nat) : List Sample :=
  let k := a.popCount cap n
  (List.range k).flatMap (fun j =>
      [(a.slot cap (a.readPos.toNat + j)).l, (a.slot cap (a.readPos.toNat + j)).r]) ++
    List.replicate (2 * (n - k)) 0

/-- `POP_AUDIO_FRAMES(n)` (R344). -/
def Audio.pop (a : Audio) (cap n : Nat) : Audio :=
  let k := a.popCount cap n
  { a with
    readPos := BitVec.ofNat 32 ((a.readPos.toNat + k) % cap)
    ringUnderruns := if k < n then a.ringUnderruns + 1 else a.ringUnderruns }

/-- A pop, and the consumer's buffer it fills (R344). -/
def State.popFrames (s : State) (n : Nat) : State :=
  { s with audio := s.audio.pop s.params.ringCap n, env.audioOut := s.audio.popBuffer s.params.ringCap n }

/-- `RING_PUSH` (R343). -/
def execRingPush (frames : List Frame) (s : State) : Outcome :=
  .next (State.answer { s with audio := s.audio.push s.params.ringCap frames }
    (.nat (s.audio.pushCount s.params.ringCap frames.length)))

/-- `POP_AUDIO_FRAMES` (R344). -/
def execPopAudioFrames (n : Nat) (s : State) : Outcome :=
  .next ((s.popFrames n).answer (.nat (s.audio.popCount s.params.ringCap n)))

/-! ## The timebase (R340 to R342) -/

/-- `cycles_per_sample_fp = floor((P_CPU_HZ / P_SAMPLE_RATE) * 2^32 + 1/2)` (R340). -/
def cyclesPerSampleFp (sampleRate : Nat) : Nat := (Config.cpuHz / sampleRate * 2 ^ 32 + 1 / 2).floor.toNat

/-- The `while` loop of R342 and the frames it counts: `fuel` bounds its turns, and the accumulator itself is always
enough fuel where `step` is not 0. -/
def scheduleFrames (step : Nat) : Nat → Nat → Nat × Nat
  | 0, acc => (0, acc)
  | fuel + 1, acc =>
    if step ≤ acc then
      let r := scheduleFrames step fuel (acc - step)
      (r.1 + 1, r.2)
    else (0, acc)

/-- `apu_accum + (cycles << 32)`, a `u64` (R342). -/
def Audio.accumWith (a : Audio) (cycles : Nat) : BitVec 64 := a.apuAccum + BitVec.ofNat 64 (cycles * 2 ^ 32)

/-- The frames `APU_ADVANCE(cycles)` schedules and the accumulator it leaves (R342). -/
def State.apuSchedule (s : State) (cycles : Nat) : Nat × Nat :=
  scheduleFrames (cyclesPerSampleFp s.params.sampleRate) (s.audio.accumWith cycles).toNat
    (s.audio.accumWith cycles).toNat

/-- `draw(apu_frames, count)`: exactly `count` frames the APU generates, free values (R341). -/
def State.apuDrawn (s : State) (count : Nat) : List Frame :=
  (List.range count).map fun j => Config.apuFrame s.env.apuWrites (s.env.apuFrames + j)

/-- `APU_ADVANCE(cycles)` (R342). -/
def State.apuAdvance (s : State) (cycles : Nat) : State :=
  let count := (s.apuSchedule cycles).1
  let a := { s.audio with apuAccum := BitVec.ofNat 64 (s.apuSchedule cycles).2 }
  let written := a.pushCount s.params.ringCap count
  { s with
    audio := { a.push s.params.ringCap (s.apuDrawn count) with
      ringOverflowFrames := a.ringOverflowFrames + (count - written) }
    env.apuFrames := s.env.apuFrames + count }

/-- `APU_ADVANCE` (R342). -/
def execApuAdvance (cycles : Nat) (s : State) : Outcome := .next (s.apuAdvance cycles)

end Sys2Proof.Machine
end

