-- ==== Sys2Proof/Machine/Dma.lean ====
section
/-! DEFINITION. The DMA engine: ports 0x30 to 0x36, the copy, and the boundary operation (spec/43_dma.md). -/

namespace Sys2Proof.Machine

/-! ## Register ports (R210 to R217) -/

/-- `IN_DMA_SRC_LO` (R210). -/
def execInDmaSrcLo (s : State) : Outcome := .next (s.answerByte (s.dma.get .srcLo))

/-- `OUT_DMA_SRC_LO` (R210). -/
def execOutDmaSrcLo (v : Byte) (s : State) : Outcome := .next (s.writeDmaReg .srcLo v)

/-- `IN_DMA_SRC_HI` (R211). -/
def execInDmaSrcHi (s : State) : Outcome := .next (s.answerByte (s.dma.get .srcHi))

/-- `OUT_DMA_SRC_HI` (R211). -/
def execOutDmaSrcHi (v : Byte) (s : State) : Outcome := .next (s.writeDmaReg .srcHi v)

/-- `IN_DMA_DST_LO` (R212). -/
def execInDmaDstLo (s : State) : Outcome := .next (s.answerByte (s.dma.get .dstLo))

/-- `OUT_DMA_DST_LO` (R212). -/
def execOutDmaDstLo (v : Byte) (s : State) : Outcome := .next (s.writeDmaReg .dstLo v)

/-- `IN_DMA_DST_HI` (R213). -/
def execInDmaDstHi (s : State) : Outcome := .next (s.answerByte (s.dma.get .dstHi))

/-- `OUT_DMA_DST_HI` (R213). -/
def execOutDmaDstHi (v : Byte) (s : State) : Outcome := .next (s.writeDmaReg .dstHi v)

/-- `IN_DMA_LEN_LO` (R214). -/
def execInDmaLenLo (s : State) : Outcome := .next (s.answerByte (s.dma.get .lenLo))

/-- `OUT_DMA_LEN_LO` (R214). -/
def execOutDmaLenLo (v : Byte) (s : State) : Outcome := .next (s.writeDmaReg .lenLo v)

/-- `IN_DMA_LEN_HI` (R215). -/
def execInDmaLenHi (s : State) : Outcome := .next (s.answerByte (s.dma.get .lenHi))

/-- `OUT_DMA_LEN_HI` (R215). -/
def execOutDmaLenHi (v : Byte) (s : State) : Outcome := .next (s.writeDmaReg .lenHi v)

/-- What a read of DMA CTRL gives: BUSY reads 0 (R216). -/
def State.readDmaCtrl (s : State) : Byte := withoutBusy s.dma.ctrl

/-- `IN_DMA_CTRL` (R216). -/
def execInDmaCtrl (s : State) : Outcome := .next (s.answerByte s.readDmaCtrl)

/-- `OUT_DMA_CTRL` (R217). -/
def execOutDmaCtrl (v : Byte) (s : State) : Outcome := .next (s.writeDmaCtrl v)

/-! ## The copy (R223) -/

/-- The byte of iteration `i`: `MemRead((src + i) mod 65536)` (R223; 92_eei_decisions.md D19). -/
def State.dmaSourceByte (s : State) (src : Half) (i : Nat) : Byte := s.memRead (src + BitVec.ofNat 16 i)

/-- The staged-palette byte address of iteration `i`: `(dst + i) & 0xFF` (R223). -/
def dmaPalAddr (dst : Half) (i : Nat) : Byte := BitVec.ofNat 8 (dst.toNat + i)

/-- The VRAM address of iteration `i`: a natural number, reduced only modulo 49152 (R223; 92_eei_decisions.md D52). -/
def dmaVramAddr (dst : Half) (i : Nat) : Nat := dst.toNat + i

/-- Iteration `i` of the copy (R223). -/
def State.dmaMove (s : State) (src dst : Half) (pal : Bool) (i : Nat) : State :=
  if pal then s.palWriteByte (dmaPalAddr dst i) (s.dmaSourceByte src i)
  else s.vramWrite (dmaVramAddr dst i) (s.dmaSourceByte src i)

/-- The first `k` iterations of the copy, in increasing `i` (R223). -/
def State.dmaCopy (s : State) (src dst : Half) (pal : Bool) : Nat → State
  | 0 => s
  | k + 1 => (State.dmaCopy s src dst pal k).dmaMove src dst pal k

/-- `DMA_EXECUTE(src, dst, len, pal)` (R223, R225). -/
def State.dmaExecute (s : State) (src dst len : Half) (pal : Bool) : State :=
  (s.dmaCopy src dst pal len.toNat).raiseIf s.params.irqDmaDone irqDmaDone

/-- `DMA_EXECUTE` (R223). -/
def execDmaExecute (src dst len : Half) (pal : Bool) (s : State) : Outcome := .next (s.dmaExecute src dst len pal)

/-! ## The boundary (R224) -/

/-- Case 1: the queued copy with the queued parameters (R218). -/
def State.dmaRunQueued (s : State) : State :=
  let t := s.dmaExecute s.dma.queue.src s.dma.queue.dst s.dma.queue.len s.dma.queue.dstIsPalette
  { t with dma.queue.valid := false, dma.lastTriggerWasQueued := true }

/-- Case 5: the immediate copy with the current registers (R222). -/
def State.dmaRunNow (s : State) : State :=
  let t := s.dmaExecute s.dma.src s.dma.dst s.dma.len (dmaDstIsPalette s.dma.ctrl)
  { t with dma.lastTriggerWasQueued := false }

/-- Case 6: the queued slot overwritten with the current registers (R219). -/
def State.dmaEnqueue (s : State) : State :=
  { s with dma.queue := ⟨true, s.dma.src, s.dma.dst, s.dma.len, dmaDstIsPalette s.dma.ctrl⟩ }

/-- Case 7: the request dropped (R220). -/
def State.dmaDrop (s : State) : State := { s with dma.lastIllegalStart := true }

/-- Case 3: START consumed (R221). -/
def State.dmaConsumeStart (s : State) : State := { s with dma.ctrl := clearStart s.dma.ctrl }

/-- Cases 4 to 7, after START has been consumed (R221, R222, R219, R220). -/
def State.dmaRequest (s : State) (vblank : Bool) : State :=
  if s.dma.len = 0 then s
  else if vblank then s.dmaRunNow
  else if dmaQueueIfNotVblank s.dma.ctrl then s.dmaEnqueue
  else s.dmaDrop

/-- `DMA_BOUNDARY(n, vblank, frame)`, its seven cases in order; no step reads `frame` (R224). -/
def State.dmaBoundary (s : State) (n : Fin 262) (vblank : Bool) (_frame : Nat) : State :=
  if n.val = Config.vblankLine ∧ vblank = true ∧ s.dma.queue.valid = true then s.dmaRunQueued
  else if dmaStart s.dma.ctrl = false then s
  else s.dmaConsumeStart.dmaRequest vblank

/-- `DMA_BOUNDARY` (R224). -/
def execDmaBoundary (n : Fin 262) (vblank : Bool) (frame : Nat) (s : State) : Outcome :=
  .next (s.dmaBoundary n vblank frame)

end Sys2Proof.Machine
end

