-- ==== Sys2Proof/Machine/Irq.lean ====
section
/-! DEFINITION. The IRQ controller's hooks and ports 0x80 to 0x82 (spec/41_irq.md). -/

namespace Sys2Proof.Machine

/-! ## Hooks (R161 to R168) -/

/-- `IRQ_RAISE` (R161). -/
def execIrqRaise (mask : Byte) (s : State) : Outcome := .next (s.raise mask)

/-- `IRQ_ACK` (R162). -/
def execIrqAck (mask : Byte) (s : State) : Outcome := .next (s.irqAck mask)

/-- `IRQ_WRITE_ENABLE` (R163). -/
def execIrqWriteEnable (mask : Byte) (s : State) : Outcome := .next (s.irqWriteEnable mask)

/-- `IRQ_READ_STATUS` (R164). -/
def execIrqReadStatus (s : State) : Outcome := .next (s.answerByte s.irq.pending)

/-- `IRQ_READ_ENABLE` (R165). -/
def execIrqReadEnable (s : State) : Outcome := .next (s.answerByte s.irq.enable)

/-- `IRQ_PRE_CPU_UPDATE` (R167). -/
def execIrqPreCpuUpdate (s : State) : Outcome := .next s.recompute

/-- `IRQ_POST_CPU_UPDATE` (R168). -/
def execIrqPostCpuUpdate (s : State) : Outcome := .next s.recompute

/-- `IRQ_INT_LINE_ASSERTED`: the last recomputed value, without recomputing (R166). -/
def execIrqIntLineAsserted (s : State) : Outcome := .next (s.answer (.bool s.irq.intLine))

/-! ## Ports (R170 to R175) -/

/-- A write of port 0x82: the acknowledge, then the post-CPU update (R175). -/
def State.portIrqAck (s : State) (v : Byte) : State := (s.irqAck v).recompute

/-- `IN_IRQ_STATUS` (R170). -/
def execInIrqStatus (s : State) : Outcome := .next (s.answerByte s.irq.pending)

/-- `OUT_IRQ_STATUS`: no state changes (R171). -/
def execOutIrqStatus (_v : Byte) (s : State) : Outcome := .next s

/-- `IN_IRQ_ENABLE` (R172). -/
def execInIrqEnable (s : State) : Outcome := .next (s.answerByte s.irq.enable)

/-- `OUT_IRQ_ENABLE` (R173). -/
def execOutIrqEnable (v : Byte) (s : State) : Outcome := .next (s.irqWriteEnable v)

/-- `IN_IRQ_ACK`: 0xFF (R174). -/
def execInIrqAck (s : State) : Outcome := .next (s.answerByte 0xFF)

/-- `OUT_IRQ_ACK` (R175). -/
def execOutIrqAck (v : Byte) (s : State) : Outcome := .next (s.portIrqAck v)

end Sys2Proof.Machine
end

