-- ==== Sys2Proof/Machine/PpuIo.lean ====
section
/-! DEFINITION. The PPU and sprite ports 0x10 to 0x22 (spec/44_ppu_io.md). -/

namespace Sys2Proof.Machine

/-! ## Status, control, scroll and base registers (R250 to R267) -/

/-- `IN_VDP_STATUS`: VBlank in bit 0 (R250). -/
def execInVdpStatus (s : State) : Outcome := .next (s.answerByte (statusByte s.ppu.vblank))

/-- `OUT_VDP_STATUS`: no state change (R251). -/
def execOutVdpStatus (_v : Byte) (s : State) : Outcome := .next s

/-- `IN_VDP_CTRL` (R252). -/
def execInVdpCtrl (s : State) : Outcome := .next (s.answerByte (s.readPending .vdpCtrl))

/-- `OUT_VDP_CTRL` (R253). -/
def execOutVdpCtrl (v : Byte) (s : State) : Outcome := .next (s.writePending .vdpCtrl v)

/-- `IN_SCROLL_A_X` (R254). -/
def execInScrollAX (s : State) : Outcome := .next (s.answerByte (s.readPending .scrollAX))

/-- `OUT_SCROLL_A_X` (R255). -/
def execOutScrollAX (v : Byte) (s : State) : Outcome := .next (s.writePending .scrollAX v)

/-- `IN_SCROLL_A_Y` (R256). -/
def execInScrollAY (s : State) : Outcome := .next (s.answerByte (s.readPending .scrollAY))

/-- `OUT_SCROLL_A_Y` (R257). -/
def execOutScrollAY (v : Byte) (s : State) : Outcome := .next (s.writePending .scrollAY v)

/-- `IN_SCROLL_B_X` (R258). -/
def execInScrollBX (s : State) : Outcome := .next (s.answerByte (s.readPending .scrollBX))

/-- `OUT_SCROLL_B_X` (R259). -/
def execOutScrollBX (v : Byte) (s : State) : Outcome := .next (s.writePending .scrollBX v)

/-- `IN_SCROLL_B_Y` (R260). -/
def execInScrollBY (s : State) : Outcome := .next (s.answerByte (s.readPending .scrollBY))

/-- `OUT_SCROLL_B_Y` (R261). -/
def execOutScrollBY (v : Byte) (s : State) : Outcome := .next (s.writePending .scrollBY v)

/-- `IN_TMAP_A_BASE` (R262). -/
def execInTmapABase (s : State) : Outcome := .next (s.answerByte (s.readPending .tmapABase))

/-- `OUT_TMAP_A_BASE` (R263). -/
def execOutTmapABase (v : Byte) (s : State) : Outcome := .next (s.writePending .tmapABase v)

/-- `IN_TMAP_B_BASE` (R264). -/
def execInTmapBBase (s : State) : Outcome := .next (s.answerByte (s.readPending .tmapBBase))

/-- `OUT_TMAP_B_BASE` (R265). -/
def execOutTmapBBase (v : Byte) (s : State) : Outcome := .next (s.writePending .tmapBBase v)

/-- `IN_PAT_BASE` (R266). -/
def execInPatBase (s : State) : Outcome := .next (s.answerByte (s.readPending .patBase))

/-- `OUT_PAT_BASE` (R267). -/
def execOutPatBase (v : Byte) (s : State) : Outcome := .next (s.writePending .patBase v)

/-! ## Palette aperture (R268 to R271) -/

/-- `IN_PAL_ADDR`: no increment (R268). -/
def execInPalAddr (s : State) : Outcome := .next (s.answerByte s.ppu.palAddr)

/-- `OUT_PAL_ADDR` (R271). -/
def execOutPalAddr (v : Byte) (s : State) : Outcome := .next (s.writePalAddr v)

/-- `IN_PAL_DATA`: the staged byte, then the increment (R269). -/
def execInPalData (s : State) : Outcome := .next (s.bumpPalAddr.answerByte (s.palReadByte s.ppu.palAddr))

/-- `OUT_PAL_DATA` (R270). -/
def execOutPalData (v : Byte) (s : State) : Outcome := .next (s.writePalData v)

/-! ## Sprite registers (R272 to R277) -/

/-- `IN_SPR_CTRL` (R272). -/
def execInSprCtrl (s : State) : Outcome := .next (s.answerByte (s.readPending .sprCtrl))

/-- `OUT_SPR_CTRL` (R273). -/
def execOutSprCtrl (v : Byte) (s : State) : Outcome := .next (s.writePending .sprCtrl v)

/-- `IN_SAT_BASE` (R274). -/
def execInSatBase (s : State) : Outcome := .next (s.answerByte (s.readPending .satBase))

/-- `OUT_SAT_BASE` (R275). -/
def execOutSatBase (v : Byte) (s : State) : Outcome := .next (s.writePending .satBase v)

/-- `IN_SPR_STATUS`: the overflow latch in bit 0, not cleared by the read (R276). -/
def execInSprStatus (s : State) : Outcome := .next (s.answerByte (statusByte s.ppu.sprOvfLatch))

/-- `OUT_SPR_STATUS`: no state change (R277). -/
def execOutSprStatus (_v : Byte) (s : State) : Outcome := .next s

end Sys2Proof.Machine
end

