-- ==== Sys2Proof/Machine/Bus.lean ====
section
/-! DEFINITION. The bus: the IO map by port number (spec/30_encoding.md R112, spec/10_state.md R59), the unmapped and APU
ports and the button latch (spec/42_bus_io.md). -/

namespace Sys2Proof.Machine

/-! ## The IO map -/

/-- `IoRead(port)`: the byte returned (R110, R59); 0xFF where no register is named (R191, R280, R281). -/
def State.ioReadByte (s : State) (port : Byte) : Byte :=
  match port.toNat with
  | 0x10 => statusByte s.ppu.vblank
  | 0x11 => s.readPending .vdpCtrl
  | 0x12 => s.readPending .scrollAX
  | 0x13 => s.readPending .scrollAY
  | 0x14 => s.readPending .scrollBX
  | 0x15 => s.readPending .scrollBY
  | 0x16 => s.readPending .tmapABase
  | 0x17 => s.readPending .tmapBBase
  | 0x18 => s.readPending .patBase
  | 0x1E => s.ppu.palAddr
  | 0x1F => s.palReadByte s.ppu.palAddr
  | 0x20 => s.readPending .sprCtrl
  | 0x21 => s.readPending .satBase
  | 0x22 => statusByte s.ppu.sprOvfLatch
  | 0x30 => s.dma.get .srcLo
  | 0x31 => s.dma.get .srcHi
  | 0x32 => s.dma.get .dstLo
  | 0x33 => s.dma.get .dstHi
  | 0x34 => s.dma.get .lenLo
  | 0x35 => s.dma.get .lenHi
  | 0x36 => s.readDmaCtrl
  | 0x80 => s.irq.pending
  | 0x81 => s.irq.enable
  | _ => if apuPort port then s.apuByte port else 0xFF

/-- What `IoRead(port)` leaves behind: a read of 0x1F steps PAL_ADDR, the one read with a side effect (R94, R269); a read
of an APU port draws a byte from the APU (R194). -/
def State.ioReadEffect (s : State) (port : Byte) : State :=
  if port = 0x1F then s.bumpPalAddr else if apuPort port then s.apuReadDrawn else s

/-- `IoWrite(port, v)` (R110, R59); ignored where no register is named (R192, R280, R281) and at the status ports
(R171, R251, R277). -/
def State.ioWrite (s : State) (port v : Byte) : State :=
  match port.toNat with
  | 0x11 => s.writePending .vdpCtrl v
  | 0x12 => s.writePending .scrollAX v
  | 0x13 => s.writePending .scrollAY v
  | 0x14 => s.writePending .scrollBX v
  | 0x15 => s.writePending .scrollBY v
  | 0x16 => s.writePending .tmapABase v
  | 0x17 => s.writePending .tmapBBase v
  | 0x18 => s.writePending .patBase v
  | 0x1E => s.writePalAddr v
  | 0x1F => s.writePalData v
  | 0x20 => s.writePending .sprCtrl v
  | 0x21 => s.writePending .satBase v
  | 0x30 => s.writeDmaReg .srcLo v
  | 0x31 => s.writeDmaReg .srcHi v
  | 0x32 => s.writeDmaReg .dstLo v
  | 0x33 => s.writeDmaReg .dstHi v
  | 0x34 => s.writeDmaReg .lenLo v
  | 0x35 => s.writeDmaReg .lenHi v
  | 0x36 => s.writeDmaCtrl v
  | 0x81 => s.irqWriteEnable v
  | 0x82 => s.portIrqAck v
  | _ => if apuPort port then s.apuWrite port v else s

/-! ## Unmapped and pass-through ports -/

/-- `IN_UNMAPPED`: 0xFF (R191, R280, R281). -/
def execInUnmapped (_port : Byte) (s : State) : Outcome := .next (s.answerByte 0xFF)

/-- `OUT_UNMAPPED`: no block state change (R192, R280, R281). -/
def execOutUnmapped (_port _v : Byte) (s : State) : Outcome := .next s

/-- `IN_UNMAPPED_7E` (R191, R193). -/
def execInUnmapped7e (s : State) : Outcome := .next (s.answerByte 0xFF)

/-- `OUT_UNMAPPED_7E` (R192, R193). -/
def execOutUnmapped7e (_v : Byte) (s : State) : Outcome := .next s

/-- `IN_UNMAPPED_7F` (R191, R193). -/
def execInUnmapped7f (s : State) : Outcome := .next (s.answerByte 0xFF)

/-- `OUT_UNMAPPED_7F` (R192, R193). -/
def execOutUnmapped7f (_v : Byte) (s : State) : Outcome := .next s

/-- `IN_APU`: a byte the APU supplies, a free value (R194). -/
def execInApu (port : Byte) (s : State) : Outcome := .next (s.apuReadDrawn.answerByte (s.apuByte port))

/-- `OUT_APU`: forwarded to the APU; no block state changes (R194). -/
def execOutApu (port v : Byte) (s : State) : Outcome := .next (s.apuWrite port v)

/-- `SET_HOST_BUTTONS`: the Input component's latch; no block state changes (R197). -/
def execSetHostButtons (b : Buttons) (s : State) : Outcome := .next { s with env.hostButtons := b }

end Sys2Proof.Machine
end

