-- ==== Sys2Proof/Machine/Cpu.lean ====
section
/-! DEFINITION. The external CPU's slice (spec/40_scheduler.md R138): the block does not implement the CPU, it runs what the
CPU does to it. -/

namespace Sys2Proof.Machine

/-- Something the CPU got back in its slice. -/
def State.see (s : State) (x : CpuSeen) : State := { s with env.cpuSeen := s.env.cpuSeen ++ [x] }

/-- One CPU action, at once (R98, R138): an IO transaction at the port A[7:0] (R111, R190), a memory access (R81, R83), or
a sampling of the current `int_line` (R176). -/
def State.cpuAction (s : State) : CpuAction → State
  | .input addr => (s.ioReadEffect (portOf addr)).see (.data (s.ioReadByte (portOf addr)))
  | .output addr v => s.ioWrite (portOf addr) v
  | .load addr => s.see (.data (s.memRead addr))
  | .store addr v => s.memWrite addr v
  | .sampleInt => s.see (.intLine s.irq.intLine)

/-- CPU actions in program order (R98). -/
def State.cpuActions (s : State) (acts : List CpuAction) : State := acts.foldl State.cpuAction s

/-- What the CPU can see when its slice begins; no debug state is part of it (R376). -/
def State.cpuView (s : State) : Config.CpuView where
  pending := s.ppu.pending
  stagedPal := s.ppu.stagedPal
  palAddr := s.ppu.palAddr
  vblank := s.ppu.vblank
  sprOvfLatch := s.ppu.sprOvfLatch
  irq := s.irq
  dmaSrc := s.dma.src
  dmaDst := s.dma.dst
  dmaLen := s.dma.len
  dmaCtrl := s.dma.ctrl
  wram := s.wram
  rom := s.rom
  apuWrites := s.env.apuWrites
  apuReads := s.env.apuReads

/-- The CPU's next slice: the oldest of the tape, else a free value (R138). -/
def State.nextSlice (s : State) (budget : Nat) : CpuSlice :=
  match s.env.cpuTape with
  | c :: _ => c
  | [] => Config.cpuSlice s.env.cpuDraws budget s.cpuView

/-- The slice taken from the tape, or counted as drawn; what the CPU saw in the slice before is gone. -/
def State.takeSlice (s : State) : State :=
  match s.env.cpuTape with
  | _ :: rest => { s with env.cpuTape := rest, env.cpuSeen := [] }
  | [] => { s with env.cpuDraws := s.env.cpuDraws + 1, env.cpuSeen := [] }

/-- A drawn overshoot reduced to the contract's range: `executed < budget + P_MAX_OVERSHOOT` (R138). -/
def overshootOf (p : Config.Params) (drawn : Nat) : Nat := drawn % p.maxOvershoot

/-- `executed` (R138): 0 for a budget of 0, else the budget and a legal overshoot. -/
def State.executedOf (s : State) (budget : Nat) : Nat :=
  if budget = 0 then 0 else budget + overshootOf s.params (s.nextSlice budget).overshoot

/-- The state after `CPU_STEP(budget)`: the slice's actions, none of them for a budget of 0 (R138). -/
def State.runSlice (s : State) (budget : Nat) : State :=
  if budget = 0 then s.takeSlice else s.takeSlice.cpuActions (s.nextSlice budget).actions

/-- `CPU_STEP` (R138). -/
def execCpuStep (budget : Nat) (s : State) : Outcome := .next ((s.runSlice budget).answer (.nat (s.executedOf budget)))

end Sys2Proof.Machine
end

