-- ==== Sys2Proof/Machine/Render.lean ====
section
/-! DEFINITION. The scanline renderer: tiles, planes, sprites, compositing (spec/45_ppu_render.md). The pixel functions
take the PPU alone: "rendering reads only from active". -/

namespace Sys2Proof.Machine

/-! ## Tiles and planes (R301 to R303) -/

/-- `TILE_PIXEL(tile, px, py)` (R301). -/
def tilePixel (p : Ppu) (tile px py : Nat) : BitVec 4 :=
  let b := vramRead p.vram (kibPage p.active.patBase + tile * 32 + py * 4 + px / 2)
  if px % 2 = 0 then b.extractLsb' 4 4 else b.extractLsb' 0 4

/-- `PLANE_PIXEL(base, scroll_x, scroll_y, n, x)` (R302). -/
def planePixel (p : Ppu) (base scrollX scrollY : Byte) (n x : Nat) : BitVec 4 :=
  let gy := (n + scrollY.toNat) % Config.fbHeight
  let gx := (x + scrollX.toNat) % Config.fbWidth
  let entry := vramRead16 p.vram (kibPage base + (gy / 8 * Config.tilemapColumns + gx / 8) * 2)
  tilePixel p (tilemapTile entry) (gx % 8) (gy % 8)

/-- `line_a[x]` (R300). -/
def lineA (p : Ppu) (n x : Nat) : BitVec 4 :=
  planePixel p p.active.tmapABase p.active.scrollAX p.active.scrollAY n x

/-- `line_b[x]`: 0 where Plane B is disabled (R300, R303). -/
def lineB (p : Ppu) (n x : Nat) : BitVec 4 :=
  if planeBEnabled p.active then planePixel p p.active.tmapBBase p.active.scrollBX p.active.scrollBY n x else 0

/-! ## Sprites (R304 to R307) -/

/-- A byte of SAT entry `i` (R305). -/
def satByte (p : Ppu) (i k : Nat) : Byte := vramRead p.vram (satEntryAddr p.active.satBase i + k)

/-- `dy = (n - y) mod 256` for SAT entry `i` (R304, R306). -/
def spriteDy (p : Ppu) (n i : Nat) : Nat := (n + (256 - (satByte p i 0).toNat)) % 256

/-- SAT entry `i` is a candidate on line `n`: its rows cover the line (R304). -/
def isCandidate (p : Ppu) (n i : Nat) : Bool := spriteDy p n i < Config.sprSize

/-- The selection of a line and whether a 17th candidate was found. -/
structure Selection where
  chosen : List Nat
  overflow : Bool
  deriving DecidableEq, Repr

/-- The selection loop over the SAT indices left to examine; it stops at the 17th candidate (R304). -/
def selectFrom (p : Ppu) (n : Nat) : List Nat → List Nat → Selection
  | [], sel => ⟨sel, false⟩
  | i :: rest, sel =>
    if isCandidate p n i then
      if sel.length = Config.sprPerLine then ⟨sel, true⟩ else selectFrom p n rest (sel ++ [i])
    else selectFrom p n rest sel

/-- `SELECT_SPRITES(n)`, without its effect on the latch (R304). -/
def selectSprites (p : Ppu) (n : Nat) : Selection :=
  if spritesEnabled p.active then selectFrom p n (List.range Config.satEntries) [] else ⟨[], false⟩

/-- One cell of `spr_line` (R43). -/
structure SpritePixel where
  solid : Bool
  colorIndex : BitVec 4
  paletteSel : BitVec 4
  behindPlaneA : Bool
  deriving DecidableEq, Repr

/-- A cell no sprite has drawn (R306). -/
def SpritePixel.clear : SpritePixel := ⟨false, 0, 0, false⟩

/-- The tile row of SAT entry `i` on line `n`, flip Y applied (R306, R307). -/
def spriteTileRow (p : Ppu) (n i : Nat) : Nat :=
  if attrFlipY (satByte p i 4) then 7 - spriteDy p n i else spriteDy p n i

/-- The tile column of screen column `c` of SAT entry `i`, flip X applied (R306, R307). -/
def spriteTileColumn (p : Ppu) (i c : Nat) : Nat := if attrFlipX (satByte p i 4) then 7 - c else c

/-- The colour index of screen column `c` of SAT entry `i` on line `n` (R306). -/
def spriteColor (p : Ppu) (n i c : Nat) : BitVec 4 :=
  tilePixel p (satTile (satByte p i 2) (satByte p i 3)) (spriteTileColumn p i c) (spriteTileRow p n i)

/-- The cell SAT entry `i` draws where its colour index is `ci` (R306). -/
def spriteCell (p : Ppu) (i : Nat) (ci : BitVec 4) : SpritePixel :=
  ⟨true, ci, attrPalette (satByte p i 4), attrBehind (satByte p i 4)⟩

/-- Column `c` of SAT entry `i`: clipped past 255, nothing where transparent (R306; 92_eei_decisions.md D10). -/
def drawColumn (p : Ppu) (n i : Nat) (line : Vector SpritePixel 256) (c : Nat) : Vector SpritePixel 256 :=
  let px := (satByte p i 1).toNat + c
  if h : px < 256 then
    if spriteColor p n i c = 0 then line else line.set px (spriteCell p i (spriteColor p n i c))
  else line

/-- The eight columns of SAT entry `i` (R306). -/
def drawSprite (p : Ppu) (n : Nat) (line : Vector SpritePixel 256) (i : Nat) : Vector SpritePixel 256 :=
  (List.range Config.sprSize).foldl (drawColumn p n i) line

/-- `RASTER_SPRITES(sel, n)`, "in reverse order" (R306). -/
def rasterSprites (p : Ppu) (n : Nat) (sel : List Nat) : Vector SpritePixel 256 :=
  sel.reverse.foldl (drawSprite p n) (Vector.replicate 256 SpritePixel.clear)

/-! ## Compositing (R308, R310) -/

/-- `(palette_sel << 4) | color_index` (R308). -/
def spriteIndex (c : SpritePixel) : Nat := (c.paletteSel ++ c.colorIndex : BitVec 8).toNat

/-- Plane A over Plane B (R308). -/
def planeIndex (a b : BitVec 4) : Nat := if a ≠ 0 then a.toNat else b.toNat

/-- `COMPOSITE(a, b, s)`, its index taken modulo 128 (R308, R310). -/
def composite (a b : BitVec 4) (c : SpritePixel) : Fin 128 :=
  Fin.ofNat 128 <|
    if c.solid = false then planeIndex a b
    else if c.behindPlaneA = false then spriteIndex c
    else if a ≠ 0 then a.toNat else spriteIndex c

/-! ## The scanline operation (R300) -/

/-- The pixels of a line while the display is enabled (R300, R309). -/
def renderedLine (p : Ppu) (n : Nat) : Vector Argb 256 :=
  let sprites := rasterSprites p n (selectSprites p n).chosen
  Vector.ofFn fun x => p.activeArgb[composite (lineA p n x) (lineB p n x) sprites[x]]

/-- The pixels of a line while the display is disabled (R300). -/
def blankLine (p : Ppu) : Vector Argb 256 := Vector.replicate 256 p.activeArgb[0]

/-- What finding a 17th candidate does: the latch, and the interrupt where it is configured (R304, R313). -/
def State.latchOverflow (s : State) (overflow : Bool) : State :=
  if overflow then State.raiseIf { s with ppu.sprOvfLatch := true } s.params.irqSprOvf irqSprOverflow else s

/-- One line of the framebuffer written (R309). -/
def State.writeLine (s : State) (n : Fin 192) (line : Vector Argb 256) : State :=
  { s with ppu.fb := s.ppu.fb.set n line }

/-- `RENDER_SCANLINE(n)` (R300, R311). -/
def State.renderScanline (s : State) (n : Fin 192) : State :=
  if displayEnabled s.ppu.active then
    (s.latchOverflow (selectSprites s.ppu n).overflow).writeLine n (renderedLine s.ppu n)
  else
    (s.latchOverflow (s.params.sprEvalWhenBlank && (selectSprites s.ppu n).overflow)).writeLine n (blankLine s.ppu)

/-- `RENDER_SCANLINE` (R300). -/
def execRenderScanline (n : Fin 192) (s : State) : Outcome := .next (s.renderScanline n)

/-! ## The host's view (R316) -/

/-- `fb` row-major: pixel (x, y) at index `y * 256 + x` (R316). -/
def framebufferPixels (fb : Framebuffer) : List Argb := fb.toList.flatMap fun row => row.toList

/-- `FRAMEBUFFER_READ` (R316). -/
def execFramebufferRead (s : State) : Outcome := .next (s.answer (.pixels (framebufferPixels s.ppu.fb)))

end Sys2Proof.Machine
end

