-- ==== Sys2Proof/Machine/Schedule.lean ====
section
/-! DEFINITION. The scheduler: the cycle budget, the console hook at scanline start, the scanline step and the frame
(spec/40_scheduler.md). -/

namespace Sys2Proof.Machine

/-! ## Budget (R132) -/

/-- The accumulator after step (1): `cpu_cycle_accumulator + P_CPL` (R132). -/
def State.accumulatorPlus (s : State) : Rat := s.sched.cpuCycleAccumulator + s.params.cpl

/-- `raw`, the T-states of the line before debt repayment: step (2) of R132. -/
def State.rawBudget (s : State) : Nat := s.accumulatorPlus.floor.toNat

/-- `pay`: step (4) of R132, saturating at 0. -/
def State.debtPaid (s : State) : Nat := min s.sched.cpuCycleDebt s.rawBudget

/-- `cycles_this_line = raw - pay` (R132). -/
def State.lineBudget (s : State) : Nat := s.rawBudget - s.debtPaid

/-- The record of the scanline debug ring that step 1 writes (R145). -/
def State.lineRecord (s : State) : ScanlineRecord where
  frame := s.sched.frameCounter
  scanline := s.sched.currentScanline
  cyclesThisLine := s.lineBudget
  accumulatorBefore := s.sched.cpuCycleAccumulator
  accumulatorAfter := s.accumulatorPlus - s.rawBudget

/-- `BUDGET()`, its effect on the scheduler (R132, R145). -/
def State.takeBudget (s : State) : State :=
  { s with
    sched.cpuCycleAccumulator := s.accumulatorPlus - s.rawBudget
    sched.cpuCycleDebt := s.sched.cpuCycleDebt - s.debtPaid
    sched.scanlineLog := (s.lineRecord :: s.sched.scanlineLog).take Config.debugRing }

/-! ## Console hook at scanline start (R133 to R137) -/

/-- `COMMIT()` (R134). -/
def State.commit (s : State) : State :=
  { s with
    ppu.active := s.ppu.pending
    ppu.activePal := s.ppu.stagedPal
    ppu.activeArgb := Vector.ofFn fun e => argb s.ppu.stagedPal e }

/-- `VBLANK_START()` (R135). -/
def State.vblankStart (s : State) : State :=
  State.raise
    { s with
      ppu.vblank := true
      ppu.sprOvfLatch := false
      sched.vblankLatchLine := some Config.vblankLine } irqVblank

/-- Step 3 of the hook, only at n = 192 (R133, R135). -/
def State.startVblankAt (s : State) (n : Fin 262) : State := if n.val = Config.vblankLine then s.vblankStart else s

/-- Step 4 of the hook, only at n = 0 (R136). -/
def State.endVblankAt (s : State) (n : Fin 262) : State := if n.val = 0 then { s with ppu.vblank := false } else s

/-- `ON_SCANLINE_START(n)` (R133). -/
def State.onScanlineStart (s : State) (n : Fin 262) : State :=
  State.recompute
    ((((s.commit.startVblankAt n).endVblankAt n).raiseIf
      (s.params.synthTimer && n.val == Config.synthTimerLine) irqTimer))

/-- `ON_SCANLINE_START` (R133). -/
def execOnScanlineStart (n : Fin 262) (s : State) : Outcome := .next (s.onScanlineStart n)

/-! ## The scanline step (R131) -/

/-- Step 3's accounts: the overshoot becomes debt, the total grows (R131, R139). -/
def State.charge (s : State) (cycles executed : Nat) : State :=
  { s with
    sched.cpuCycleDebt := s.sched.cpuCycleDebt + (executed - cycles)
    sched.totalTstatesExecuted := s.sched.totalTstatesExecuted + executed }

/-- Step 5: lines 0 to 191 are rendered (R131, R314). -/
def State.renderVisible (s : State) (n : Fin 262) : State :=
  if h : n.val < 192 then s.renderScanline ⟨n.val, h⟩ else s

/-- What the audio consumer can see; the accumulator of the timebase is no part of it (R57). -/
def State.consumerView (s : State) : Config.ConsumerView where
  ring := s.audio.ring
  writePos := s.audio.writePos
  readPos := s.audio.readPos
  ringUnderruns := s.audio.ringUnderruns

/-- The pops the audio consumer makes during this scanline step: the oldest of the tape, else a free value (R345). -/
def State.nextPops (s : State) : List Nat :=
  match s.env.popTape with
  | ns :: _ => ns
  | [] => Config.consumerPops s.env.popDraws s.consumerView

/-- The pops taken from the tape, or counted as drawn. -/
def State.takePops (s : State) : State :=
  match s.env.popTape with
  | _ :: rest => { s with env.popTape := rest }
  | [] => { s with env.popDraws := s.env.popDraws + 1 }

/-- The consumer's pops, between two of the block's steps (R345; log entry 4). -/
def State.consumerPops (s : State) : State := s.nextPops.foldl State.popFrames s.takePops

/-- `ADVANCE_LINE()` (R141). -/
def State.advanceLine (s : State) : State :=
  if s.sched.currentScanline.val = 261 then
    { s with sched.currentScanline := 0, sched.frameCounter := s.sched.frameCounter + 1 }
  else { s with sched.currentScanline := s.sched.currentScanline + 1 }

/-- Step 3, the CPU slice and its accounts (R131, R138, R139). -/
def State.cpuPhase (s : State) (cycles : Nat) : State := (s.runSlice cycles).charge cycles (s.executedOf cycles)

/-- Step 6: the boundary with `vblank` as step 2 left it (R131). -/
def State.dmaPhase (s : State) (n : Fin 262) : State := s.dmaBoundary n s.ppu.vblank s.sched.frameCounter

/-- `SCANLINE_STEP()`: the eight steps in order (R131), the consumer's pops just before step 7. -/
def State.scanlineStep (s : State) : State :=
  let n := s.sched.currentScanline
  let cycles := s.lineBudget
  let hooked := s.takeBudget.onScanlineStart n
  let ran := (hooked.cpuPhase cycles).recompute
  let drawn := (ran.renderVisible n).dmaPhase n
  (drawn.consumerPops.apuAdvance cycles).advanceLine

/-- `SCANLINE_STEP` (R131). -/
def execScanlineStep (s : State) : Outcome := .next s.scanlineStep

/-! ## Frames (R140) -/

/-- `k` scanline steps. -/
def State.scanlines (s : State) : Nat → State
  | 0 => s
  | k + 1 => (State.scanlines s k).scanlineStep

/-- `STEP_FRAME`: 262 scanline steps (R140). -/
def execStepFrame (s : State) : Outcome := .next (s.scanlines Config.lines)

end Sys2Proof.Machine
end

