-- ==== Sys2Proof/Machine/Dispatch.lean ====
section
/-! DEFINITION. Every operation sent to its meaning. -/

namespace Sys2Proof.Machine

def exec (i : Instr) (s : State) : Host.Outcome State Fault Refusal :=
  match i with
  | .inVdpStatus => Sys2Proof.Machine.execInVdpStatus s
  | .outVdpStatus v => Sys2Proof.Machine.execOutVdpStatus v s
  | .inVdpCtrl => Sys2Proof.Machine.execInVdpCtrl s
  | .outVdpCtrl v => Sys2Proof.Machine.execOutVdpCtrl v s
  | .inScrollAX => Sys2Proof.Machine.execInScrollAX s
  | .outScrollAX v => Sys2Proof.Machine.execOutScrollAX v s
  | .inScrollAY => Sys2Proof.Machine.execInScrollAY s
  | .outScrollAY v => Sys2Proof.Machine.execOutScrollAY v s
  | .inScrollBX => Sys2Proof.Machine.execInScrollBX s
  | .outScrollBX v => Sys2Proof.Machine.execOutScrollBX v s
  | .inScrollBY => Sys2Proof.Machine.execInScrollBY s
  | .outScrollBY v => Sys2Proof.Machine.execOutScrollBY v s
  | .inTmapABase => Sys2Proof.Machine.execInTmapABase s
  | .outTmapABase v => Sys2Proof.Machine.execOutTmapABase v s
  | .inTmapBBase => Sys2Proof.Machine.execInTmapBBase s
  | .outTmapBBase v => Sys2Proof.Machine.execOutTmapBBase v s
  | .inPatBase => Sys2Proof.Machine.execInPatBase s
  | .outPatBase v => Sys2Proof.Machine.execOutPatBase v s
  | .inPalAddr => Sys2Proof.Machine.execInPalAddr s
  | .outPalAddr v => Sys2Proof.Machine.execOutPalAddr v s
  | .inPalData => Sys2Proof.Machine.execInPalData s
  | .outPalData v => Sys2Proof.Machine.execOutPalData v s
  | .inSprCtrl => Sys2Proof.Machine.execInSprCtrl s
  | .outSprCtrl v => Sys2Proof.Machine.execOutSprCtrl v s
  | .inSatBase => Sys2Proof.Machine.execInSatBase s
  | .outSatBase v => Sys2Proof.Machine.execOutSatBase v s
  | .inSprStatus => Sys2Proof.Machine.execInSprStatus s
  | .outSprStatus v => Sys2Proof.Machine.execOutSprStatus v s
  | .inDmaSrcLo => Sys2Proof.Machine.execInDmaSrcLo s
  | .outDmaSrcLo v => Sys2Proof.Machine.execOutDmaSrcLo v s
  | .inDmaSrcHi => Sys2Proof.Machine.execInDmaSrcHi s
  | .outDmaSrcHi v => Sys2Proof.Machine.execOutDmaSrcHi v s
  | .inDmaDstLo => Sys2Proof.Machine.execInDmaDstLo s
  | .outDmaDstLo v => Sys2Proof.Machine.execOutDmaDstLo v s
  | .inDmaDstHi => Sys2Proof.Machine.execInDmaDstHi s
  | .outDmaDstHi v => Sys2Proof.Machine.execOutDmaDstHi v s
  | .inDmaLenLo => Sys2Proof.Machine.execInDmaLenLo s
  | .outDmaLenLo v => Sys2Proof.Machine.execOutDmaLenLo v s
  | .inDmaLenHi => Sys2Proof.Machine.execInDmaLenHi s
  | .outDmaLenHi v => Sys2Proof.Machine.execOutDmaLenHi v s
  | .inDmaCtrl => Sys2Proof.Machine.execInDmaCtrl s
  | .outDmaCtrl v => Sys2Proof.Machine.execOutDmaCtrl v s
  | .inApu port => Sys2Proof.Machine.execInApu port s
  | .outApu port v => Sys2Proof.Machine.execOutApu port v s
  | .inUnmapped7e => Sys2Proof.Machine.execInUnmapped7e s
  | .outUnmapped7e v => Sys2Proof.Machine.execOutUnmapped7e v s
  | .inUnmapped7f => Sys2Proof.Machine.execInUnmapped7f s
  | .outUnmapped7f v => Sys2Proof.Machine.execOutUnmapped7f v s
  | .inIrqStatus => Sys2Proof.Machine.execInIrqStatus s
  | .outIrqStatus v => Sys2Proof.Machine.execOutIrqStatus v s
  | .inIrqEnable => Sys2Proof.Machine.execInIrqEnable s
  | .outIrqEnable v => Sys2Proof.Machine.execOutIrqEnable v s
  | .inIrqAck => Sys2Proof.Machine.execInIrqAck s
  | .outIrqAck v => Sys2Proof.Machine.execOutIrqAck v s
  | .inUnmapped port => Sys2Proof.Machine.execInUnmapped port s
  | .outUnmapped port v => Sys2Proof.Machine.execOutUnmapped port v s
  | .powerOn => Sys2Proof.Machine.execPowerOn s
  | .reset => Sys2Proof.Machine.execReset s
  | .loadRom bytes => Sys2Proof.Machine.execLoadRom bytes s
  | .stepFrame => Sys2Proof.Machine.execStepFrame s
  | .scanlineStep => Sys2Proof.Machine.execScanlineStep s
  | .onScanlineStart n => Sys2Proof.Machine.execOnScanlineStart n s
  | .renderScanline n => Sys2Proof.Machine.execRenderScanline n s
  | .dmaBoundary n vblank frame => Sys2Proof.Machine.execDmaBoundary n vblank frame s
  | .apuAdvance cycles => Sys2Proof.Machine.execApuAdvance cycles s
  | .irqRaise mask => Sys2Proof.Machine.execIrqRaise mask s
  | .irqAck mask => Sys2Proof.Machine.execIrqAck mask s
  | .irqWriteEnable mask => Sys2Proof.Machine.execIrqWriteEnable mask s
  | .irqReadStatus => Sys2Proof.Machine.execIrqReadStatus s
  | .irqReadEnable => Sys2Proof.Machine.execIrqReadEnable s
  | .irqPreCpuUpdate => Sys2Proof.Machine.execIrqPreCpuUpdate s
  | .irqPostCpuUpdate => Sys2Proof.Machine.execIrqPostCpuUpdate s
  | .irqIntLineAsserted => Sys2Proof.Machine.execIrqIntLineAsserted s
  | .cpuStep budget => Sys2Proof.Machine.execCpuStep budget s
  | .ringPush frames => Sys2Proof.Machine.execRingPush frames s
  | .popAudioFrames n => Sys2Proof.Machine.execPopAudioFrames n s
  | .framebufferRead => Sys2Proof.Machine.execFramebufferRead s
  | .dmaExecute src dst len pal => Sys2Proof.Machine.execDmaExecute src dst len pal s
  | .setHostButtons b => Sys2Proof.Machine.execSetHostButtons b s

end Sys2Proof.Machine
end

