-- ==== Sys2Proof/Machine/Fetch.lean ====
section
/-! DEFINITION. Taking the next operation: the block has no program counter (spec/10_state.md R21); its operations come from
the agents of spec/00_scope.md R6, in the one total order of spec/20_memory.md R98. -/

namespace Sys2Proof.Machine

/-- The oldest request not yet run. -/
def State.nextRequest (s : State) : Option Request := s.env.requests.head?

/-- The state once the oldest request has been taken. -/
def State.dropRequest (s : State) : State := { s with env.requests := s.env.requests.tail }

/-- A request put before every other. -/
def State.pushRequest (s : State) (r : Request) : State := { s with env.requests := r :: s.env.requests }

end Sys2Proof.Machine
end

