-- ==== Sys2Proof/Machine/Step.lean ====
section
/-! DEFINITION. One step of the machine: the oldest request is taken, decoded and run. -/

namespace Sys2Proof.Machine

/-- One step. Where no agent has issued an operation, nothing happens (R6, R146; log entry 5). -/
def step (s : State) : Host.Outcome State Fault Refusal :=
  match s.nextRequest with
  | none => .next s
  | some r =>
    match decode r with
    | .ok i => exec i s.dropRequest
    | .error e => .refused (.undecodable e)

/-- The state whose next step runs the operation of an opcode-table word: that word's request is issued before every
other. A word that is no request of either format leaves the state as it was. -/
def State.withFetchWord (s : State) (nbits w : Nat) : State :=
  match tableRequest nbits w with
  | some r => s.pushRequest r
  | none => s

end Sys2Proof.Machine
end

