-- ==== Sys2Proof/Safety.lean ====
section
/-! DEFINITION. The terms claims use: what holds of every state the operations reach (spec/60_exceptions.md R362 "A model
proves them; it does not check them"), the block as one record, and the reference descriptions of the ring and of a
sprite line. -/

namespace Sys2Proof.Machine

/-! ## Invariants -/

/-- Canonical, and within a size. -/
structure Memory.Sound (m : Memory) (size : Nat) : Prop where
  wf : Memory.wf m
  below : Memory.Below m size

/-- "Odd (high) bytes therefore hold only their bit 0" (R34, R35). -/
def Memory.NineBit (m : Memory) : Prop := ∀ a, a % 2 = 1 → (Memory.read m a).toNat ≤ 1

/-- The PPU's memories are sound, both palettes nine bits an entry, and the colours those of the active palette (R34,
R35, R36, R38). -/
structure Ppu.Inv (p : Ppu) : Prop where
  vram : Memory.Sound p.vram Config.vramSize
  staged : Memory.Sound p.stagedPal 256
  stagedNine : Memory.NineBit p.stagedPal
  activePal : Memory.Sound p.activePal 256
  activeNine : Memory.NineBit p.activePal
  colours : ∀ e : Fin 128, p.activeArgb[e] = argb p.activePal e

/-- BUSY is never 1 (R229); a queued request has something to copy (R219). -/
structure Dma.Inv (d : Dma) : Prop where
  busy : d.ctrl.getLsbD 7 = false
  queued : d.queue.valid = true → d.queue.len ≠ 0

/-- The ring has its slots, and both positions are in `[0, P_RING_CAP)` (R52, R346). -/
structure Audio.RingOk (a : Audio) (cap : Nat) : Prop where
  slots : a.ring.length = cap
  writeIn : a.writePos.toNat < cap
  readIn : a.readPos.toNat < cap

/-- The accumulator lies in [0, 1) (R25), and the debug ring keeps at most 512 records (R145). -/
structure Scheduler.Inv (c : Scheduler) : Prop where
  nonneg : 0 ≤ c.cpuCycleAccumulator
  below : c.cpuCycleAccumulator < 1
  log : c.scanlineLog.length ≤ Config.debugRing

/-- What every operation keeps. -/
structure State.Inv (s : State) : Prop where
  params : s.params.Valid
  sched : s.sched.Inv
  ppu : s.ppu.Inv
  dma : s.dma.Inv
  ring : s.audio.RingOk s.params.ringCap
  /-- R342: after the loop `apu_accum < cycles_per_sample_fp`. -/
  accum : s.audio.apuAccum.toNat < cyclesPerSampleFp s.params.sampleRate
  wram : Memory.Sound s.wram Config.wramSize
  rom : s.rom.length ≤ Config.romMax

/-- `int_line == ((irq_pending & irq_enable) != 0)` (R169). -/
def Irq.Settled (i : Irq) : Prop := i.intLine = intAsserted i.pending i.enable

/-- The VBlank flag before a scanline step: set on lines 193 to 261, and at line 0 until its hook (R143). -/
def State.VblankPhase (s : State) : Prop :=
  (s.ppu.vblank = true → 193 ≤ s.sched.currentScanline.val ∨ s.sched.currentScanline.val = 0) ∧
    (193 ≤ s.sched.currentScanline.val → s.ppu.vblank = true)

/-! ## The block as one record -/

/-- All but the agents' interface is the same. -/
structure State.SameBlock (s t : State) : Prop where
  params : t.params = s.params
  sched : t.sched = s.sched
  ppu : t.ppu = s.ppu
  irq : t.irq = s.irq
  dma : t.dma = s.dma
  audio : t.audio = s.audio
  wram : t.wram = s.wram
  rom : t.rom = s.rom

/-- The two states differ at most in the consumer's side of the ring, the ring's contents, its counters, and the
agents' interface but the CPU's and the APU's side of it: what the timing of pops can change (R146, R345). -/
structure State.SameCore (s t : State) : Prop where
  params : t.params = s.params
  sched : t.sched = s.sched
  ppu : t.ppu = s.ppu
  irq : t.irq = s.irq
  dma : t.dma = s.dma
  apuAccum : t.audio.apuAccum = s.audio.apuAccum
  wram : t.wram = s.wram
  rom : t.rom = s.rom
  cpuTape : t.env.cpuTape = s.env.cpuTape
  cpuDraws : t.env.cpuDraws = s.env.cpuDraws
  apuWrites : t.env.apuWrites = s.env.apuWrites
  apuFrames : t.env.apuFrames = s.env.apuFrames
  apuReads : t.env.apuReads = s.env.apuReads

/-- What the CPU cannot change, whatever it does in a slice: the scheduler, the audio side, the ROM, everything the
renderer reads, the flags, and the DMA engine's slot and debug flags (R38, R40, R41, R49, R50, R83, R282). -/
structure State.CpuFrame (s t : State) : Prop where
  params : t.params = s.params
  sched : t.sched = s.sched
  audio : t.audio = s.audio
  rom : t.rom = s.rom
  active : t.ppu.active = s.ppu.active
  activePal : t.ppu.activePal = s.ppu.activePal
  activeArgb : t.ppu.activeArgb = s.ppu.activeArgb
  vram : t.ppu.vram = s.ppu.vram
  vblank : t.ppu.vblank = s.ppu.vblank
  sprOvfLatch : t.ppu.sprOvfLatch = s.ppu.sprOvfLatch
  fb : t.ppu.fb = s.ppu.fb
  queue : t.dma.queue = s.dma.queue
  lastTriggerWasQueued : t.dma.lastTriggerWasQueued = s.dma.lastTriggerWasQueued
  lastIllegalStart : t.dma.lastIllegalStart = s.dma.lastIllegalStart
  requests : t.env.requests = s.env.requests
  popTape : t.env.popTape = s.env.popTape
  popDraws : t.env.popDraws = s.env.popDraws
  apuFrames : t.env.apuFrames = s.env.apuFrames
  audioOut : t.env.audioOut = s.env.audioOut
  hostButtons : t.env.hostButtons = s.env.hostButtons

/-! ## The ring as a queue (R346) -/

/-- The frames in the ring, oldest first. -/
def Audio.contents (a : Audio) (cap : Nat) : List Frame :=
  (List.range (a.fill cap)).map fun j => a.slot cap (a.readPos.toNat + j)

/-- What the producer and the consumer do to the ring. -/
inductive RingAct where
  | push (frames : List Frame)
  | pop (n : Nat)
  deriving DecidableEq, Repr

/-- An action on the ring. -/
def Audio.act (a : Audio) (cap : Nat) : RingAct → Audio
  | .push frames => a.push cap frames
  | .pop n => a.pop cap n

/-- An action on a queue that holds at most `cap - 1` frames: what does not fit is dropped, never the oldest. -/
def queueAct (cap : Nat) (q : List Frame) : RingAct → List Frame
  | .push frames => q ++ frames.take (cap - 1 - q.length)
  | .pop n => q.drop n

/-! ## A sprite line, pixel by pixel (R306, R317) -/

/-- The byte of VRAM at an address, as a number (R84). -/
def vramNat (p : Ppu) (a : Nat) : Nat := (Memory.read p.vram (a % 49152)).toNat

/-- Byte `k` of SAT entry `i`: 0 is y, 1 is x, 2 and 3 the tile, 4 the attributes (R305). -/
def satField (p : Ppu) (i k : Nat) : Nat := vramNat p (p.active.satBase.toNat * 256 + 8 * i + k)

/-- `dy = (n - y) mod 256`, from 0 to 7 for an entry that covers the line (R304). -/
def satDy (p : Ppu) (n i : Nat) : Nat := (((n : Int) - satField p i 0) % 256).toNat

/-- The candidates of a line in SAT order (R304). -/
def candidates (p : Ppu) (n : Nat) : List Nat := (List.range 48).filter fun i => satDy p n i < 8

/-- The tile pixel under column `c` of SAT entry `i` on line `n`, from the bytes of VRAM: tile bits 7:0 are byte 2 and bits
11:8 the low nibble of byte 3, attribute bit 5 flips X, bit 6 flips Y, and the high nibble of a byte is the even column
(R301, R305, R306, R307). -/
def satPixel (p : Ppu) (n i c : Nat) : Nat :=
  let tile := satField p i 2 + 256 * (satField p i 3 % 16)
  let col := if satField p i 4 / 32 % 2 = 1 then 7 - c else c
  let row := if satField p i 4 / 64 % 2 = 1 then 7 - satDy p n i else satDy p n i
  let byte := vramNat p (p.active.patBase.toNat * 1024 + tile * 32 + row * 4 + col / 2)
  if col % 2 = 0 then byte / 16 else byte % 16

/-- SAT entry `i` draws an opaque pixel at screen column `x` of line `n`: its eight columns from x on, byte 1, without a
wrap, and colour index 0 is transparent (R306; 92_eei_decisions.md D10). -/
def drawsAt (p : Ppu) (n x i : Nat) : Bool :=
  decide (satField p i 1 ≤ x ∧ x < satField p i 1 + 8 ∧ satPixel p n i (x - satField p i 1) ≠ 0)

/-- "Only the lowest-index opaque sprite there matters": what the first of the selection that draws at `x` leaves there,
its palette bank from attribute bits 3:0 and behind Plane A from bit 4 (R305, R306, R317). -/
def topSpriteCell (p : Ppu) (n : Nat) (sel : List Nat) (x : Nat) : SpritePixel :=
  match sel.find? (drawsAt p n x) with
  | some i =>
    { solid := true
      colorIndex := BitVec.ofNat 4 (satPixel p n i (x - satField p i 1))
      paletteSel := BitVec.ofNat 4 (satField p i 4 % 16)
      behindPlaneA := satField p i 4 / 16 % 2 = 1 }
  | none => ⟨false, 0, 0, false⟩

/-! ## Runs of operations -/

/-- Operations run one after the other, stopping at the first that has no next state. -/
def runOps : List Instr → State → Outcome
  | [], s => .next s
  | i :: rest, s =>
    match exec i s with
    | .next t => runOps rest t
    | .fault r => .fault r
    | .refused r => .refused r

/-! ## Who may clear a latched bit -/

/-- The action is a write that acknowledges pending bit `k` (port 0x82, R175). -/
def CpuAction.acks (k : Nat) : CpuAction → Bool
  | .output addr v => portOf addr == 0x82 && v.getLsbD k
  | .input _ => false
  | .load _ => false
  | .store _ _ => false
  | .sampleInt => false

/-- The operation may clear pending bit `k`: an acknowledge with that bit, reset, power-on, or a CPU slice that
acknowledges it (R363). The scheduler's steps are named whole, since their CPU slice may acknowledge. -/
def mayClearPending (s : State) (k : Nat) : Instr → Prop
  | .irqAck mask => mask.getLsbD k = true
  | .outIrqAck v => v.getLsbD k = true
  | .cpuStep budget => ∃ a ∈ (s.nextSlice budget).actions, a.acks k = true
  | .reset => True
  | .powerOn => True
  | .scanlineStep => True
  | .stepFrame => True
  | _ => False

/-- The operation may clear the sprite-overflow latch: the hook of line 192, reset and power-on (R41). -/
def mayClearLatch (s : State) : Instr → Prop
  | .onScanlineStart n => n.val = 192
  | .scanlineStep => s.sched.currentScanline.val = 192
  | .stepFrame => True
  | .reset => True
  | .powerOn => True
  | _ => False

/-- The operation may latch a source without a recompute after it: `IRQ_RAISE`, and, where the parameters say so, the
operations that raise SPR_OVERFLOW or DMA_DONE inside themselves (R161, R225, R313). -/
def mayUnsettle (s : State) : Instr → Prop
  | .irqRaise _ => True
  | .renderScanline _ => s.params.irqSprOvf = true
  | .dmaBoundary _ _ _ => s.params.irqDmaDone = true
  | .dmaExecute _ _ _ _ => s.params.irqDmaDone = true
  | .scanlineStep => s.params.irqSprOvf = true ∨ s.params.irqDmaDone = true
  | .stepFrame => s.params.irqSprOvf = true ∨ s.params.irqDmaDone = true
  | _ => False

end Sys2Proof.Machine
end

