-- ==== Sys2Proof/Certificates/Slice0/Obligations.lean ====
section
/-! DEFINITION. The statements for the provers: what the numbered rules of spec/ say of the machine. -/

open Sys2Proof Sys2Proof.Machine

/-! ## Steps, decoding, encoding -/

/-- A step takes the oldest request and runs the operation it decodes to (R98: one total order; R6: the agents issue the
operations). -/
def Obligations.StepRunsDecodedRequest : Prop :=
  ∀ (s : State) (r : Request) (rest : List Request) (i : Instr),
    s.env.requests = r :: rest → decode r = .ok i → step s = exec i { s with env.requests := rest }

/-- The model's choice (log entry 5): a step with no request changes nothing, and a request that is no operation is
refused by name; every hook identifier outside R114's table is such a request. -/
def Obligations.IdleStepAndUndecodableRequest : Prop :=
  (∀ s : State, s.env.requests = [] → step s = .next s) ∧
  (∀ (s : State) (r : Request) (rest : List Request) (e : DecodeError),
    s.env.requests = r :: rest → decode r = .error e → step s = .refused (.undecodable e)) ∧
  (∀ (op : Byte) (args : List Byte), (op = 0 ∨ 0x17 < op.toNat) →
    decode (.hook (op :: args)) = .error (.reservedHook op))

/-- The transactions of 95_test_vectors.md section 2.1, and a hook with its argument, decode to their operations. -/
def Obligations.WrittenOutWordsDecode : Prop :=
  decode (.io 0x11103) = .ok (.outVdpCtrl 0x03) ∧
  decode (.io 0x01001) = .ok .inVdpStatus ∧
  decode (.io 0x17020) = .ok (.outApu 0x70 0x20) ∧
  decode (.io 0x07EFF) = .ok .inUnmapped7e ∧
  decode (.io 0x11B5A) = .ok (.outUnmapped 0x1B 0x5A) ∧
  decode (.io 0x02FFF) = .ok (.inUnmapped 0x2F) ∧
  decode (.io 0x18201) = .ok (.outIrqAck 0x01) ∧
  decode (.io 0x0FFFF) = .ok (.inUnmapped 0xFF) ∧
  decode (.hook [0x05]) = .ok .scanlineStep ∧
  decode (.hook [0x0A, 0x02]) = .ok (.irqRaise 0x02)

/-- Decoding what the encoder wrote gives the operation back, whatever bytes follow a hook. -/
def Obligations.EncodeDecodeRoundTrip : Prop :=
  (∀ i : Instr, i.wellFormed = true → decode (encode i) = .ok i) ∧
  (∀ (i : Instr) (bytes rest : List Byte), encode i = .hook bytes → decodeHook (bytes ++ rest) = .ok (i, rest))

/-- R113: a decoder selects the matching row whose mask has the most set bits; ties cannot occur; every transaction
matches at least one row. -/
def Obligations.TableDecodePrecedence : Prop :=
  ∀ w : IoWord,
    (∃ r ∈ ioRows, w &&& r.mask = r.pattern ∧ decodeIo w = some (r.build w.port w.data) ∧
      ∀ q ∈ ioRows, w &&& q.mask = q.pattern → maskWeight q.mask ≤ maskWeight r.mask) ∧
    ioRows.Pairwise fun r q =>
      maskWeight r.mask = maskWeight q.mask → ¬(w &&& r.mask = r.pattern ∧ w &&& q.mask = q.pattern)

/-- What a request decodes to is one of the table's operations (R193, R196). -/
def Obligations.DecodedOperationsAreWellFormed : Prop :=
  ∀ (r : Request) (i : Instr), decode r = .ok i → i.wellFormed = true

/-- The IO map by port number (R59, R112, R190) and the opcode table's rows say the same of all 512 direction and port
pairs; the CPU's IO actions reach the port A[7:0] of the IO address. That the port is A[7:0] is log entry 14 (PRESUMED): the
spec's own decision D2, which R111 rests on its general knowledge G1. -/
def Obligations.BusMapAgreesWithTable : Prop :=
  ∀ (s : State) (p v : Byte) (addr : Half),
    (∃ i, decodeIo (ioWord true p v) = some i ∧ exec i s = .next (s.ioWrite p v)) ∧
    (∃ i, decodeIo (ioWord false p v) = some i ∧
      exec i s = .next { s.ioReadEffect p with env.reply := .byte (s.ioReadByte p) }) ∧
    s.cpuAction (.output addr v) = s.ioWrite (addr.extractLsb' 0 8) v ∧
    s.cpuAction (.input addr) =
      { s.ioReadEffect (addr.extractLsb' 0 8) with
        env.cpuSeen := s.env.cpuSeen ++ [.data (s.ioReadByte (addr.extractLsb' 0 8))] }

/-- R360: no operation traps, faults or stalls; every operation has a result in every state, for every operand. -/
def Obligations.EveryOperationCompletes : Prop := ∀ (i : Instr) (s : State), ∃ t, exec i s = .next t

/-! ## PPU and sprite ports -/

/-- Reads of the ten staged registers give the `pending` byte, whatever the data bits of the word,
and change nothing else. -/
def Obligations.StagedRegisterReads : Prop :=
  ∀ (s : State) (v : Byte),
    exec .inVdpCtrl s = .next { s with env.reply := .byte s.ppu.pending.vdpCtrl } ∧
    exec .inScrollAX s = .next { s with env.reply := .byte s.ppu.pending.scrollAX } ∧
    exec .inScrollAY s = .next { s with env.reply := .byte s.ppu.pending.scrollAY } ∧
    exec .inScrollBX s = .next { s with env.reply := .byte s.ppu.pending.scrollBX } ∧
    exec .inScrollBY s = .next { s with env.reply := .byte s.ppu.pending.scrollBY } ∧
    exec .inTmapABase s = .next { s with env.reply := .byte s.ppu.pending.tmapABase } ∧
    exec .inTmapBBase s = .next { s with env.reply := .byte s.ppu.pending.tmapBBase } ∧
    exec .inPatBase s = .next { s with env.reply := .byte s.ppu.pending.patBase } ∧
    exec .inSprCtrl s = .next { s with env.reply := .byte s.ppu.pending.sprCtrl } ∧
    exec .inSatBase s = .next { s with env.reply := .byte s.ppu.pending.satBase } ∧
    decodeIo (ioWord false 0x11 v) = some .inVdpCtrl ∧ decodeIo (ioWord false 0x12 v) = some .inScrollAX ∧
    decodeIo (ioWord false 0x13 v) = some .inScrollAY ∧ decodeIo (ioWord false 0x14 v) = some .inScrollBX ∧
    decodeIo (ioWord false 0x15 v) = some .inScrollBY ∧ decodeIo (ioWord false 0x16 v) = some .inTmapABase ∧
    decodeIo (ioWord false 0x17 v) = some .inTmapBBase ∧ decodeIo (ioWord false 0x18 v) = some .inPatBase ∧
    decodeIo (ioWord false 0x20 v) = some .inSprCtrl ∧ decodeIo (ioWord false 0x21 v) = some .inSatBase

/-- Writes of the ten staged registers change that `pending` byte and nothing else: no active register, no flag, no
memory. -/
def Obligations.StagedRegisterWrites : Prop :=
  ∀ (s : State) (v : Byte),
    exec (.outVdpCtrl v) s = .next { s with ppu.pending.vdpCtrl := v } ∧
    exec (.outScrollAX v) s = .next { s with ppu.pending.scrollAX := v } ∧
    exec (.outScrollAY v) s = .next { s with ppu.pending.scrollAY := v } ∧
    exec (.outScrollBX v) s = .next { s with ppu.pending.scrollBX := v } ∧
    exec (.outScrollBY v) s = .next { s with ppu.pending.scrollBY := v } ∧
    exec (.outTmapABase v) s = .next { s with ppu.pending.tmapABase := v } ∧
    exec (.outTmapBBase v) s = .next { s with ppu.pending.tmapBBase := v } ∧
    exec (.outPatBase v) s = .next { s with ppu.pending.patBase := v } ∧
    exec (.outSprCtrl v) s = .next { s with ppu.pending.sprCtrl := v } ∧
    exec (.outSatBase v) s = .next { s with ppu.pending.satBase := v }

/-- The two PPU status ports read their flag in bit 0, bits 7:1 zero, and clear nothing (R250, R276). -/
def Obligations.StatusPortReads : Prop :=
  ∀ s : State,
    exec .inVdpStatus s = .next { s with env.reply := .byte (if s.ppu.vblank then 0x01 else 0x00) } ∧
    exec .inSprStatus s = .next { s with env.reply := .byte (if s.ppu.sprOvfLatch then 0x01 else 0x00) }

/-- Writes of the read-only status ports 0x10, 0x22 and 0x80 change nothing, and the reserved ports of the two apertures
are unmapped: the spec's own decisions D6 and D3. -/
def Obligations.ReadOnlyAndReservedPorts : Prop :=
  (∀ (s : State) (v : Byte),
    exec (.outVdpStatus v) s = .next s ∧ exec (.outSprStatus v) s = .next s ∧ exec (.outIrqStatus v) s = .next s ∧
    decodeIo (ioWord true 0x10 v) = some (.outVdpStatus v) ∧
    decodeIo (ioWord true 0x22 v) = some (.outSprStatus v) ∧
    decodeIo (ioWord true 0x80 v) = some (.outIrqStatus v)) ∧
  (∀ p v : Byte, ((0x19 ≤ p.toNat ∧ p.toNat ≤ 0x1D) ∨ (0x23 ≤ p.toNat ∧ p.toNat ≤ 0x2F)) →
    decodeIo (ioWord false p v) = some (.inUnmapped p) ∧ decodeIo (ioWord true p v) = some (.outUnmapped p v))

/-- The palette ports: PAL_ADDR reads back and is written at once; PAL_DATA reads and writes the staged byte it points at
and steps it, wrapping at 256; only the staged palette and PAL_ADDR change (R268 to R271, R87). -/
def Obligations.PalettePorts : Prop :=
  ∀ (s : State) (v : Byte),
    exec .inPalAddr s = .next { s with env.reply := .byte s.ppu.palAddr } ∧
    exec (.outPalAddr v) s = .next { s with ppu.palAddr := v } ∧
    exec .inPalData s = .next
      { s with
        ppu.palAddr := BitVec.ofNat 8 (s.ppu.palAddr.toNat + 1)
        env.reply := .byte (Memory.read s.ppu.stagedPal s.ppu.palAddr.toNat) } ∧
    exec (.outPalData v) s = .next
      { s with
        ppu.stagedPal := Memory.write s.ppu.stagedPal s.ppu.palAddr.toNat
          (if s.ppu.palAddr.toNat % 2 = 0 then v else v &&& 0x01)
        ppu.palAddr := BitVec.ofNat 8 (s.ppu.palAddr.toNat + 1) }

/-- A palette byte written through the ports reads back as written, the high byte under its 9-bit mask, and every other
staged byte is as before (the round-trip law of 95_test_vectors.md section 1.3). -/
def Obligations.PaletteReadAfterWrite : Prop :=
  ∀ (s : State) (a v : Byte), ∃ t,
    runOps [.outPalAddr a, .outPalData v, .outPalAddr a, .inPalData] s = .next t ∧
    t.env.reply = .byte (if a.toNat % 2 = 0 then v else v &&& 0x01) ∧
    t.ppu.palAddr = BitVec.ofNat 8 (a.toNat + 1) ∧
    (∀ b : Byte, b ≠ a → t.palReadByte b = s.palReadByte b) ∧
    t.ppu.activePal = s.ppu.activePal ∧ t.ppu.activeArgb = s.ppu.activeArgb ∧ t.ppu.vram = s.ppu.vram

/-! ## DMA ports -/

/-- The six byte latches of SRC, DST and LEN: each write sets its own byte and leaves the other, each read gives its own
byte (R90, R210 to R215). -/
def Obligations.DmaRegisterPorts : Prop :=
  ∀ (s : State) (v : Byte),
    exec (.outDmaSrcLo v) s = .next { s with dma.src := s.dma.src.extractLsb' 8 8 ++ v } ∧
    exec (.outDmaSrcHi v) s = .next { s with dma.src := v ++ s.dma.src.extractLsb' 0 8 } ∧
    exec (.outDmaDstLo v) s = .next { s with dma.dst := s.dma.dst.extractLsb' 8 8 ++ v } ∧
    exec (.outDmaDstHi v) s = .next { s with dma.dst := v ++ s.dma.dst.extractLsb' 0 8 } ∧
    exec (.outDmaLenLo v) s = .next { s with dma.len := s.dma.len.extractLsb' 8 8 ++ v } ∧
    exec (.outDmaLenHi v) s = .next { s with dma.len := v ++ s.dma.len.extractLsb' 0 8 } ∧
    exec .inDmaSrcLo s = .next { s with env.reply := .byte (s.dma.src.extractLsb' 0 8) } ∧
    exec .inDmaSrcHi s = .next { s with env.reply := .byte (s.dma.src.extractLsb' 8 8) } ∧
    exec .inDmaDstLo s = .next { s with env.reply := .byte (s.dma.dst.extractLsb' 0 8) } ∧
    exec .inDmaDstHi s = .next { s with env.reply := .byte (s.dma.dst.extractLsb' 8 8) } ∧
    exec .inDmaLenLo s = .next { s with env.reply := .byte (s.dma.len.extractLsb' 0 8) } ∧
    exec .inDmaLenHi s = .next { s with env.reply := .byte (s.dma.len.extractLsb' 8 8) }

/-- DMA CTRL: BUSY is discarded on a write and reads 0; a write starts nothing (R216, R217). -/
def Obligations.DmaControlPort : Prop :=
  ∀ (s : State) (v : Byte),
    exec (.outDmaCtrl v) s = .next { s with dma.ctrl := v &&& 0x7F } ∧
    exec .inDmaCtrl s = .next { s with env.reply := .byte (s.dma.ctrl &&& 0x7F) }

/-! ## Unmapped, APU and host ports -/

/-- R191, R192: an unmapped port reads 0xFF and ignores writes; nothing of the block changes. -/
def Obligations.UnmappedPorts : Prop :=
  (∀ (s : State) (p v : Byte),
    exec (.inUnmapped p) s = .next { s with env.reply := .byte 0xFF } ∧ exec (.outUnmapped p v) s = .next s ∧
    exec .inUnmapped7e s = .next { s with env.reply := .byte 0xFF } ∧ exec (.outUnmapped7e v) s = .next s ∧
    exec .inUnmapped7f s = .next { s with env.reply := .byte 0xFF } ∧ exec (.outUnmapped7f v) s = .next s) ∧
  (∀ p v : Byte,
    (p.toNat ≤ 0x0F ∨ (0x37 ≤ p.toNat ∧ p.toNat ≤ 0x5F) ∨ 0x83 ≤ p.toNat) →
    decodeIo (ioWord false p v) = some (.inUnmapped p) ∧ decodeIo (ioWord true p v) = some (.outUnmapped p v)) ∧
  (∀ v : Byte,
    decodeIo (ioWord false 0x7E v) = some .inUnmapped7e ∧ decodeIo (ioWord true 0x7E v) = some (.outUnmapped7e v) ∧
    decodeIo (ioWord false 0x7F v) = some .inUnmapped7f ∧ decodeIo (ioWord true 0x7F v) = some (.outUnmapped7f v))

/-- An APU port: a write is forwarded and a read answers the byte the APU supplies, whichever it is; no block state changes
(R194). What the model keeps of it for the APU is its own (log entries 8 and 9). -/
def Obligations.ApuPorts : Prop :=
  ∀ (s : State) (p v : Byte),
    (∃ t, exec (.outApu p v) s = .next t ∧ s.SameBlock t ∧ t.env.reply = s.env.reply ∧
      t.env.apuWrites = s.env.apuWrites ++ [⟨s.env.apuFrames, p, v⟩]) ∧
    (∃ t b, exec (.inApu p) s = .next t ∧ s.SameBlock t ∧ t.env.reply = .byte b ∧
      t.env.apuWrites = s.env.apuWrites)

/-- The buttons are latched outside the block: no block state changes, and every port reads as it did (R197). -/
def Obligations.HostButtonsOutsideBlock : Prop :=
  ∀ (s : State) (b : Buttons), ∃ t, exec (.setHostButtons b) s = .next t ∧ s.SameBlock t ∧ t.env.hostButtons = b ∧
    ∀ p, t.ioReadByte p = s.ioReadByte p

/-! ## IRQ controller -/

/-- R161: a raise latches and does not recompute; a latched source that is enabled later asserts `/INT` at once. -/
def Obligations.RaiseLatchesWithoutRecompute : Prop :=
  ∀ (s : State) (mask : Byte),
    exec (.irqRaise mask) s = .next { s with irq.pending := s.irq.pending ||| mask } ∧
    ∀ enable : Byte, mask &&& enable ≠ 0 →
      ∃ t, runOps [.irqRaise mask, .outIrqEnable enable] s = .next t ∧ t.irq.intLine = true

/-- R162, R163: the acknowledge clears the mask's bits and recomputes; writing the enable mask recomputes. -/
def Obligations.AcknowledgeAndEnableRecompute : Prop :=
  ∀ (s : State) (mask : Byte),
    exec (.irqAck mask) s = .next
      { s with
        irq.pending := s.irq.pending &&& ~~~mask
        irq.intLine := s.irq.pending &&& ~~~mask &&& s.irq.enable != 0 } ∧
    exec (.irqWriteEnable mask) s = .next
      { s with irq.enable := mask, irq.intLine := s.irq.pending &&& mask != 0 } ∧
    (∃ args, decode (.hook (0x0B :: args)) = .ok (.irqAck mask)) ∧
    (∃ args, decode (.hook (0x0C :: args)) = .ok (.irqWriteEnable mask))

/-- R164, R165, R166: the three reads of the controller answer and write nothing; the last does not recompute. -/
def Obligations.ControllerReads : Prop :=
  ∀ s : State,
    exec .irqReadStatus s = .next { s with env.reply := .byte s.irq.pending } ∧
    exec .irqReadEnable s = .next { s with env.reply := .byte s.irq.enable } ∧
    exec .irqIntLineAsserted s = .next { s with env.reply := .bool s.irq.intLine } ∧
    decode (.hook [0x0D]) = .ok .irqReadStatus ∧ decode (.hook [0x0E]) = .ok .irqReadEnable ∧
    decode (.hook [0x11]) = .ok .irqIntLineAsserted

/-- R160, R167, R168: both updates recompute `int_line` from `pending & enable`, and doing so twice is doing so once. -/
def Obligations.UpdatesRecompute : Prop :=
  ∀ s : State,
    exec .irqPreCpuUpdate s = .next { s with irq.intLine := s.irq.pending &&& s.irq.enable != 0 } ∧
    exec .irqPostCpuUpdate s = .next { s with irq.intLine := s.irq.pending &&& s.irq.enable != 0 } ∧
    runOps [.irqPreCpuUpdate, .irqPreCpuUpdate] s = exec .irqPreCpuUpdate s ∧
    s.recompute = { s with irq.intLine := s.irq.pending &&& s.irq.enable != 0 } ∧
    decode (.hook [0x0F]) = .ok .irqPreCpuUpdate ∧ decode (.hook [0x10]) = .ok .irqPostCpuUpdate

/-- Ports 0x80 to 0x82 (R170, R172 to R175). That a read of 0x82 answers 0xFF is the spec's own decision D6 (R174), and that
a 1 bit of the mask clears its pending bit there is its D45 (R175). -/
def Obligations.IrqPorts : Prop :=
  ∀ (s : State) (v : Byte),
    exec .inIrqStatus s = .next { s with env.reply := .byte s.irq.pending } ∧
    exec .inIrqEnable s = .next { s with env.reply := .byte s.irq.enable } ∧
    exec .inIrqAck s = .next { s with env.reply := .byte 0xFF } ∧
    exec (.outIrqEnable v) s = .next { s with irq.enable := v, irq.intLine := s.irq.pending &&& v != 0 } ∧
    exec (.outIrqAck v) s = .next
      { s with
        irq.pending := s.irq.pending &&& ~~~v
        irq.intLine := s.irq.pending &&& ~~~v &&& s.irq.enable != 0 } ∧
    exec (.outIrqAck v) s = exec (.irqAck v) s ∧
    decodeIo (ioWord false 0x80 v) = some .inIrqStatus ∧ decodeIo (ioWord false 0x81 v) = some .inIrqEnable ∧
    decodeIo (ioWord false 0x82 v) = some .inIrqAck ∧ decodeIo (ioWord true 0x82 v) = some (.outIrqAck v) ∧
    decodeIo (ioWord true 0x81 v) = some (.outIrqEnable v)

/-- R169: after an acknowledge, an enable write or an update `int_line` agrees with `pending & enable`, and no operation
but those that raise without a recompute after it can make it disagree: `IRQ_RAISE`, and the operations that raise
SPR_OVERFLOW or DMA_DONE where the parameters say so; with both off, the defaults, a whole frame step keeps it. -/
def Obligations.ControllerInvariant : Prop :=
  (∀ (s : State) (mask : Byte) (i : Instr),
    i ∈ [Instr.irqAck mask, .irqWriteEnable mask, .irqPreCpuUpdate, .irqPostCpuUpdate] →
      ∃ t, exec i s = .next t ∧ t.irq.intLine = (t.irq.pending &&& t.irq.enable != 0)) ∧
  (∀ (s : State) (i : Instr), s.irq.Settled → ¬ mayUnsettle s i → ∃ t, exec i s = .next t ∧ t.irq.Settled)

/-- R363: a pending bit, once set, is cleared only by an acknowledge with that bit set, or by reset. The scheduler's own
steps are left out whole, since their CPU slice may acknowledge; `CPU_STEP` is covered action by action. -/
def Obligations.PendingClearedOnlyByAckOrReset : Prop :=
  ∀ (s t : State) (i : Instr) (k : Nat),
    exec i s = .next t → s.irq.pending.getLsbD k = true → ¬ mayClearPending s k i →
      t.irq.pending.getLsbD k = true

/-! ## Memory -/

/-- R84, R85, R86: VRAM reads and writes wrap modulo 49152; a write changes its byte and nothing else; the 16-bit read is
little-endian, its two bytes wrapping by themselves. -/
def Obligations.VramAccessesWrap : Prop :=
  ∀ (s : State) (a b : Nat) (v : Byte),
    vramRead s.ppu.vram a = Memory.read s.ppu.vram (a % 49152) ∧
    vramRead (s.vramWrite a v).ppu.vram b = (if b % 49152 = a % 49152 then v else vramRead s.ppu.vram b) ∧
    s.vramWrite a v = { s with ppu.vram := (s.vramWrite a v).ppu.vram } ∧
    (vramRead16 s.ppu.vram a).toNat =
      (Memory.read s.ppu.vram (a % 49152)).toNat + 256 * (Memory.read s.ppu.vram ((a + 1) % 49152)).toNat

/-- R82, R83: what a CPU address reads as, and what a CPU store changes. -/
def Obligations.CpuMemoryMap : Prop :=
  ∀ (s : State) (a b : Half) (v : Byte),
    s.memRead a =
      (if a.toNat ≤ 0x7FFF then (if h : a.toNat < s.rom.length then s.rom[a.toNat] else 0xFF)
       else if a.toNat ≤ 0xBFFF then 0xFF
       else Memory.read s.wram (a.toNat - 0xC000)) ∧
    (s.cpuAction (.store a v)).memRead b = (if b = a ∧ 0xC000 ≤ a.toNat then v else s.memRead b) ∧
    s.cpuAction (.store a v) = { s with wram := (s.cpuAction (.store a v)).wram } ∧
    (a.toNat < 0xC000 → s.cpuAction (.store a v) = s)

/-! ## DMA engine -/

/-- R223: every destination byte of a copy holds the byte of the last iteration that reached it, every other byte is as
before, and nothing else changes but the optional DMA_DONE bit (R225). For LEN 0, of which R225 and R367 do not speak, the
same is log entry 19 (DEDUCED): nothing is copied, and the bit is raised where configured. -/
def Obligations.DmaExecuteCopies : Prop :=
  ∀ (s : State) (src dst len : Half),
    (∃ t, exec (.dmaExecute src dst len false) s = .next t ∧
      t = { s with
            ppu.vram := t.ppu.vram
            irq.pending := if s.params.irqDmaDone then s.irq.pending ||| 0x10 else s.irq.pending } ∧
      ∀ a, a < 49152 → Memory.read t.ppu.vram a =
        match (List.range len.toNat).reverse.find? fun i => (dst.toNat + i) % 49152 == a with
        | some i => s.memRead (BitVec.ofNat 16 (src.toNat + i))
        | none => Memory.read s.ppu.vram a) ∧
    (∃ t, exec (.dmaExecute src dst len true) s = .next t ∧
      t = { s with
            ppu.stagedPal := t.ppu.stagedPal
            irq.pending := if s.params.irqDmaDone then s.irq.pending ||| 0x10 else s.irq.pending } ∧
      ∀ a, a < 256 → Memory.read t.ppu.stagedPal a =
        match (List.range len.toNat).reverse.find? fun i => (dst.toNat + i) % 256 == a with
        | some i =>
          if a % 2 = 0 then s.memRead (BitVec.ofNat 16 (src.toNat + i))
          else s.memRead (BitVec.ofNat 16 (src.toNat + i)) &&& 0x01
        | none => Memory.read s.ppu.stagedPal a)

/-- R224: the seven cases of the boundary, each with its whole effect. -/
def Obligations.DmaBoundaryCases : Prop :=
  ∀ (s : State) (n : Fin 262) (vblank : Bool) (frame : Nat),
    ((n.val = 192 ∧ vblank = true ∧ s.dma.queue.valid = true) →
      ∃ t, exec (.dmaExecute s.dma.queue.src s.dma.queue.dst s.dma.queue.len s.dma.queue.dstIsPalette) s = .next t ∧
        exec (.dmaBoundary n vblank frame) s =
          .next { t with dma.queue.valid := false, dma.lastTriggerWasQueued := true }) ∧
    (¬(n.val = 192 ∧ vblank = true ∧ s.dma.queue.valid = true) →
      (s.dma.ctrl.getLsbD 0 = false → exec (.dmaBoundary n vblank frame) s = .next s) ∧
      (s.dma.ctrl.getLsbD 0 = true → s.dma.len = 0 →
        exec (.dmaBoundary n vblank frame) s = .next { s with dma.ctrl := s.dma.ctrl &&& 0xFE }) ∧
      (s.dma.ctrl.getLsbD 0 = true → s.dma.len ≠ 0 → vblank = true →
        ∃ t, exec (.dmaExecute s.dma.src s.dma.dst s.dma.len (s.dma.ctrl.getLsbD 3))
            { s with dma.ctrl := s.dma.ctrl &&& 0xFE } = .next t ∧
          exec (.dmaBoundary n vblank frame) s = .next { t with dma.lastTriggerWasQueued := false }) ∧
      (s.dma.ctrl.getLsbD 0 = true → s.dma.len ≠ 0 → vblank = false → s.dma.ctrl.getLsbD 1 = true →
        exec (.dmaBoundary n vblank frame) s = .next
          { s with
            dma.ctrl := s.dma.ctrl &&& 0xFE
            dma.queue := ⟨true, s.dma.src, s.dma.dst, s.dma.len, s.dma.ctrl.getLsbD 3⟩ }) ∧
      (s.dma.ctrl.getLsbD 0 = true → s.dma.len ≠ 0 → vblank = false → s.dma.ctrl.getLsbD 1 = false →
        exec (.dmaBoundary n vblank frame) s = .next
          { s with dma.ctrl := s.dma.ctrl &&& 0xFE, dma.lastIllegalStart := true }))

/-- R226: a boundary with the VBlank flag down changes nothing of the PPU; so no scanline step for lines 0 to 191 changes
VRAM, whatever the CPU does in its slice. -/
def Obligations.DmaOnlyInVblank : Prop :=
  (∀ (s : State) (n : Fin 262) (frame : Nat), ∃ t, exec (.dmaBoundary n false frame) s = .next t ∧ t.ppu = s.ppu) ∧
  (∀ s : State, s.VblankPhase → s.sched.currentScanline.val < 192 →
    ∃ t, exec .scanlineStep s = .next t ∧ t.ppu.vram = s.ppu.vram)

/-! ## Scheduler -/

/-- R133 to R137: the hook commits, sets VBlank and clears the overflow latch at 192, clears VBlank at 0, raises VBLANK at
192 and the optional TIMER at 10, and recomputes; nothing else changes. -/
def Obligations.ScanlineStartHook : Prop :=
  ∀ (s : State) (n : Fin 262), ∃ t, exec (.onScanlineStart n) s = .next t ∧
    t = { s with
          ppu.active := s.ppu.pending
          ppu.activePal := s.ppu.stagedPal
          ppu.activeArgb := t.ppu.activeArgb
          ppu.vblank := if n.val = 192 then true else if n.val = 0 then false else s.ppu.vblank
          ppu.sprOvfLatch := if n.val = 192 then false else s.ppu.sprOvfLatch
          irq.pending := s.irq.pending ||| (if n.val = 192 then 0x01 else 0) |||
            (if s.params.synthTimer = true ∧ n.val = 10 then 0x02 else 0)
          irq.intLine := t.irq.pending &&& s.irq.enable != 0
          sched.vblankLatchLine := if n.val = 192 then some 192 else s.sched.vblankLatchLine } ∧
    ∀ e : Fin 128, t.ppu.activeArgb[e] = argb s.ppu.stagedPal e

/-- R131: a scanline step is its eight steps in order, each as its own operation does it; the consumer's pops stand
before step 7 (the model's choice of the point, log entry 4). -/
def Obligations.ScanlineStepComposes : Prop :=
  ∀ s : State, ∃ (s2 s3 s4 s5 s6 s7 : State) (executed : Nat),
    exec (.onScanlineStart s.sched.currentScanline) s.takeBudget = .next s2 ∧
    exec (.cpuStep s.lineBudget) s2 = .next s3 ∧ s3.env.reply = .nat executed ∧
    exec .irqPostCpuUpdate
      { s3 with
        sched.cpuCycleDebt := s3.sched.cpuCycleDebt + (executed - s.lineBudget)
        sched.totalTstatesExecuted := s3.sched.totalTstatesExecuted + executed
        env.reply := s2.env.reply } = .next s4 ∧
    (if h : s.sched.currentScanline.val < 192 then exec (.renderScanline ⟨_, h⟩) s4 = .next s5 else s5 = s4) ∧
    exec (.dmaBoundary s.sched.currentScanline s5.ppu.vblank s5.sched.frameCounter) s5 = .next s6 ∧
    exec (.apuAdvance s.lineBudget) s6.consumerPops = .next s7 ∧
    exec .scanlineStep s = .next s7.advanceLine

/-- R132, R144, R145: at the default line length the budget before repayment is 341 or 342, the budget is that less the
debt repaid, the accumulator keeps the fraction, and the debug ring records the line. The budget is said through the debug
ring, which R145 lets a model omit; that the model keeps it, newest record first, is log entry 12 (DESIGN CHOICE). -/
def Obligations.BudgetOfALine : Prop :=
  ∀ s : State, s.params.cpl = 1342329375 / 3933566 → 0 ≤ s.sched.cpuCycleAccumulator →
    s.sched.cpuCycleAccumulator < 1 →
    ∃ (t : State) (raw : Nat), exec .scanlineStep s = .next t ∧ (raw = 341 ∨ raw = 342) ∧
      t.sched.cpuCycleAccumulator = s.sched.cpuCycleAccumulator + s.params.cpl - raw ∧
      0 ≤ t.sched.cpuCycleAccumulator ∧ t.sched.cpuCycleAccumulator < 1 ∧
      t.sched.scanlineLog.head? = some
        ⟨s.sched.frameCounter, s.sched.currentScanline, raw - min s.sched.cpuCycleDebt raw,
          s.sched.cpuCycleAccumulator, t.sched.cpuCycleAccumulator⟩

/-- R142: after any number of scanline steps from reset, what was executed, with the fraction kept and less the debt owed,
is exactly the number of lines times `P_CPL`; and from any state each step adds exactly `P_CPL` to that sum. -/
def Obligations.DriftIdentity : Prop :=
  ∀ (s : State) (lines : Nat),
    (∃ t, runOps (List.replicate lines .scanlineStep) s = .next t ∧
      (t.sched.totalTstatesExecuted : Rat) + t.sched.cpuCycleAccumulator - t.sched.cpuCycleDebt =
        s.sched.totalTstatesExecuted + s.sched.cpuCycleAccumulator - s.sched.cpuCycleDebt + lines * s.params.cpl) ∧
    (∃ t, runOps (.reset :: List.replicate lines .scanlineStep) s = .next t ∧
      (t.sched.totalTstatesExecuted : Rat) + t.sched.cpuCycleAccumulator - t.sched.cpuCycleDebt =
        lines * s.params.cpl)

/-- R139: while an overshoot is smaller than a line, the debt after a step is that line's overshoot alone, and stays below
`P_MAX_OVERSHOOT`. -/
def Obligations.DebtIsOneOvershoot : Prop :=
  ∀ s : State, s.params.Valid → 0 ≤ s.sched.cpuCycleAccumulator → (s.params.maxOvershoot : Rat) ≤ s.params.cpl →
    s.sched.cpuCycleDebt < s.params.maxOvershoot →
    ∃ (t : State) (executed : Nat), exec .scanlineStep s = .next t ∧
      t.sched.totalTstatesExecuted = s.sched.totalTstatesExecuted + executed ∧
      s.lineBudget ≤ executed ∧ t.sched.cpuCycleDebt = executed - s.lineBudget ∧
      t.sched.cpuCycleDebt < s.params.maxOvershoot

/-- R143: after the scanline step for line n the VBlank flag is true exactly for n in [192, 261], in every frame and
whatever the agents do. -/
def Obligations.VblankLaw : Prop :=
  (∀ s : State, s.VblankPhase → ∃ t, exec .scanlineStep s = .next t ∧ t.VblankPhase ∧
    (t.ppu.vblank = true ↔ 192 ≤ s.sched.currentScanline.val)) ∧
  (∀ (s : State) (k : Nat), s.sched.currentScanline = 0 →
    ∃ t, runOps (List.replicate (k + 1) .scanlineStep) s = .next t ∧ (t.ppu.vblank = true ↔ 192 ≤ k % 262))

/-- R140, R141: the line advances by one and wraps 261 to 0 with the frame counter; a frame step is 262 scanline steps and
advances the counter by exactly one. -/
def Obligations.LinesAndFramesAdvance : Prop :=
  ∀ s : State,
    (∃ t, exec .scanlineStep s = .next t ∧
      if s.sched.currentScanline.val = 261 then
        t.sched.currentScanline.val = 0 ∧ t.sched.frameCounter = s.sched.frameCounter + 1
      else
        t.sched.currentScanline.val = s.sched.currentScanline.val + 1 ∧
          t.sched.frameCounter = s.sched.frameCounter) ∧
    (∃ t, exec .stepFrame s = .next t ∧ runOps (List.replicate 262 .scanlineStep) s = .next t ∧
      t.sched.currentScanline = s.sched.currentScanline ∧ t.sched.frameCounter = s.sched.frameCounter + 1)

/-! ## The CPU slice -/

/-- R138: `CPU_STEP` returns a legal number of T-states, and can return each of them; whatever the CPU does, it leaves what
R38, R40, R41, R49, R83 and R282 keep from it. -/
def Obligations.CpuStepContract : Prop :=
  ∀ (s : State) (budget : Nat), 1 ≤ s.params.maxOvershoot →
    (∃ (t : State) (executed : Nat), exec (.cpuStep budget) s = .next t ∧ t.env.reply = .nat executed ∧
      (budget = 0 → executed = 0) ∧
      (0 < budget → budget ≤ executed ∧ executed < budget + s.params.maxOvershoot) ∧ s.CpuFrame t) ∧
    (∀ (executed : Nat) (acts : List CpuAction), 0 < budget → budget ≤ executed →
      executed < budget + s.params.maxOvershoot →
      ∃ t, exec (.cpuStep budget) { s with env.cpuTape := [⟨acts, executed - budget⟩] } = .next t ∧
        t.env.reply = .nat executed)

/-- R98, R138: a slice's actions act on the state at once and in program order; a load sees what `MemRead` reads there
(R81), and a sampling of `/INT` sees the current `int_line` (R176). -/
def Obligations.CpuSliceInProgramOrder : Prop :=
  (∀ (s : State) (budget extra : Nat) (before after : List CpuAction) (rest : List CpuSlice), 0 < budget →
    ∃ t u, exec (.cpuStep budget) { s with env.cpuTape := ⟨before ++ after, extra⟩ :: rest } = .next t ∧
      exec (.cpuStep budget) { s with env.cpuTape := ⟨before, extra⟩ :: rest } = .next u ∧
      t = { after.foldl State.cpuAction { u with env.reply := s.env.reply } with env.reply := u.env.reply }) ∧
  (∀ (s : State) (a : Half),
    s.cpuAction (.load a) = { s with env.cpuSeen := s.env.cpuSeen ++ [.data (s.memRead a)] } ∧
    s.cpuAction .sampleInt = { s with env.cpuSeen := s.env.cpuSeen ++ [.intLine s.irq.intLine] })

/-- R282: what the CPU does in the slice of line n never changes what line n renders, and is committed by the next hook. -/
def Obligations.StagingLaw : Prop :=
  ∀ (s : State) (c d : CpuSlice) (cs ds : List CpuSlice), ∃ t u,
    exec .scanlineStep { s with env.cpuTape := c :: cs } = .next t ∧
    exec .scanlineStep { s with env.cpuTape := d :: ds } = .next u ∧
    t.ppu.fb = u.ppu.fb ∧ t.ppu.sprOvfLatch = u.ppu.sprOvfLatch ∧ t.ppu.active = u.ppu.active ∧
    t.ppu.activePal = u.ppu.activePal ∧
    ∀ n, ∃ t', exec (.onScanlineStart n) t = .next t' ∧ t'.ppu.active = t.ppu.pending ∧
      t'.ppu.activePal = t.ppu.stagedPal

/-! ## Rendering -/

/-- R301, R302: a tile pixel is the high nibble of its byte where its column is even, else the low one; a plane pixel is
that of the tile which the scrolled position's tilemap entry names; the plane wraps every 256 pixels and every 192 lines.
-/
def Obligations.PlanePixelFollowsTilemap : Prop :=
  (∀ (p : Ppu) (tile : Nat) (px py : Fin 8),
    let byte := (Memory.read p.vram
      ((p.active.patBase.toNat * 1024 + tile * 32 + py.val * 4 + px.val / 2) % 49152)).toNat
    (tilePixel p tile px py).toNat = if px.val % 2 = 0 then byte / 16 else byte % 16) ∧
  ∀ (p : Ppu) (base scrollX scrollY : Byte) (n x : Nat),
    let gy := (n + scrollY.toNat) % 192
    let gx := (x + scrollX.toNat) % 256
    let entry := (vramRead16 p.vram (base.toNat * 1024 + (gy / 8 * 32 + gx / 8) * 2)).toNat
    let byte := (Memory.read p.vram
      ((p.active.patBase.toNat * 1024 + entry % 1024 * 32 + gy % 8 * 4 + gx % 8 / 2) % 49152)).toNat
    (planePixel p base scrollX scrollY n x).toNat = if gx % 2 = 0 then byte / 16 else byte % 16

/-- R304: the selection is the first 16 candidates in SAT order, and the overflow is that there is a 17th; a candidate is an
entry whose rows cover the line, modulo 256. -/
def Obligations.SelectionIsFirstSixteen : Prop :=
  ∀ (p : Ppu) (n : Nat),
    (∀ i, isCandidate p n i =
      decide (((n : Int) - (vramRead p.vram (p.active.satBase.toNat * 256 + 8 * i)).toNat) % 256 < 8)) ∧
    selectSprites p n =
      if p.active.sprCtrl.getLsbD 0 = true then
        ⟨((List.range 48).filter fun i => isCandidate p n i).take 16,
          decide (16 < ((List.range 48).filter fun i => isCandidate p n i).length)⟩
      else ⟨[], false⟩

/-- R305, R306, R307, R317: at every column the sprite line holds what the first sprite of the selection that is opaque
there draws, in bytes of VRAM: the sprite's columns start at byte 1 of its SAT entry; its tile is byte 2 and the low nibble
of byte 3; attribute bit 5 flips the column and bit 6 the row; the palette bank is bits 3:0 and behind Plane A is bit 4. A
selection holds entries that cover the line (R304), so that dy is from 0 to 7. -/
def Obligations.LowestIndexOpaqueSpriteWins : Prop :=
  ∀ (p : Ppu) (n : Nat) (sel : List Nat) (x : Fin 256),
    let vram := fun a => (Memory.read p.vram (a % 49152)).toNat
    let sat := fun i k => vram (p.active.satBase.toNat * 256 + 8 * i + k)
    let dy := fun i => (((n : Int) - sat i 0) % 256).toNat
    let pixel := fun i =>
      let c := x.val - sat i 1
      let col := if sat i 4 / 32 % 2 = 1 then 7 - c else c
      let row := if sat i 4 / 64 % 2 = 1 then 7 - dy i else dy i
      let byte := vram
        (p.active.patBase.toNat * 1024 + (sat i 2 + 256 * (sat i 3 % 16)) * 32 + row * 4 + col / 2)
      if col % 2 = 0 then byte / 16 else byte % 16
    (∀ i ∈ sel, dy i < 8) →
    (rasterSprites p n sel)[x] = topSpriteCell p n sel x ∧
    topSpriteCell p n sel x =
      match sel.find? fun i => decide (sat i 1 ≤ x.val ∧ x.val < sat i 1 + 8 ∧ pixel i ≠ 0) with
      | some i => ⟨true, BitVec.ofNat 4 (pixel i), BitVec.ofNat 4 (sat i 4 % 16), decide (sat i 4 / 16 % 2 = 1)⟩
      | none => ⟨false, 0, 0, false⟩

/-- R308, R310: the compositing rule and its modulus. -/
def Obligations.CompositeRule : Prop :=
  ∀ (a b : BitVec 4) (c : SpritePixel),
    (composite a b c).val =
      (if c.solid = false then (if a.toNat ≠ 0 then a.toNat else b.toNat)
       else if c.behindPlaneA = false then c.paletteSel.toNat * 16 + c.colorIndex.toNat
       else if a.toNat ≠ 0 then a.toNat
       else c.paletteSel.toNat * 16 + c.colorIndex.toNat) % 128

/-- R312: the colour of a palette word, and the eight channel levels. -/
def Obligations.ColourExpansion : Prop :=
  (∀ (pal : Memory) (e : Nat),
    let w := (Memory.read pal (2 * e)).toNat + 256 * (Memory.read pal (2 * e + 1)).toNat
    (argb pal e).toNat =
      0xFF000000 + w % 8 * 255 / 7 * 65536 + w / 8 % 8 * 255 / 7 * 256 + w / 64 % 8 * 255 / 7) ∧
  (List.range 8).map expandChannel = [0, 36, 72, 109, 145, 182, 218, 255]

/-- R300, R304, R306, R308, R309, R313: rendering writes its own line and no other, each pixel by the composite of Plane A
and Plane B, each under its own tilemap base and scroll, and the topmost of the first 16 candidates (candidates and cell in
bytes of VRAM, `candidates` and `topSpriteCell`), or the backdrop where the display is disabled; the overflow latch and the
optional interrupt follow the 17th candidate; nothing else changes. -/
def Obligations.RenderedLineMeetsPixelRules : Prop :=
  ∀ (s : State) (n : Fin 192), ∃ t, exec (.renderScanline n) s = .next t ∧
    (∀ (y : Fin 192) (x : Fin 256), t.ppu.fb[y][x] =
      if y = n then
        if s.ppu.active.vdpCtrl.getLsbD 0 = true then
          s.ppu.activeArgb[composite
            (planePixel s.ppu s.ppu.active.tmapABase s.ppu.active.scrollAX s.ppu.active.scrollAY n x)
            (if s.ppu.active.vdpCtrl.getLsbD 1 = true then
              planePixel s.ppu s.ppu.active.tmapBBase s.ppu.active.scrollBX s.ppu.active.scrollBY n x else 0)
            (if s.ppu.active.sprCtrl.getLsbD 0 = true then
              topSpriteCell s.ppu n ((candidates s.ppu n).take 16) x else ⟨false, 0, 0, false⟩)]
        else s.ppu.activeArgb[0]
      else s.ppu.fb[y][x]) ∧
    let overflow := (s.ppu.active.vdpCtrl.getLsbD 0 || s.params.sprEvalWhenBlank) &&
      s.ppu.active.sprCtrl.getLsbD 0 && decide (16 < (candidates s.ppu n).length)
    t = { s with
          ppu.fb := t.ppu.fb
          ppu.sprOvfLatch := s.ppu.sprOvfLatch || overflow
          irq.pending := if overflow && s.params.irqSprOvf then s.irq.pending ||| 0x08 else s.irq.pending }

/-- R41: the overflow latch, once set, is cleared only by the hook of line 192 and by reset. -/
def Obligations.OverflowLatchPersists : Prop :=
  ∀ (s t : State) (i : Instr),
    exec i s = .next t → s.ppu.sprOvfLatch = true → ¬ mayClearLatch s i → t.ppu.sprOvfLatch = true

/-- R316: the host reads 49152 pixels, row-major, and changes nothing. -/
def Obligations.FramebufferIsRowMajor : Prop :=
  ∀ s : State, ∃ pixels, exec .framebufferRead s = .next { s with env.reply := .pixels pixels } ∧
    pixels.length = 49152 ∧ ∀ (y : Fin 192) (x : Fin 256), pixels[y.val * 256 + x.val]? = some s.ppu.fb[y][x]

/-! ## Audio -/

/-- R343: a push appends what fits, drops the rest, moves `write_pos` by what it wrote and returns it; nothing else
changes: of the ring no slot but those from `write_pos` on that it wrote, modulo the capacity. -/
def Obligations.PushAppendsWhatFits : Prop :=
  ∀ (s : State) (frames : List Frame), s.params.Valid → s.audio.RingOk s.params.ringCap →
    ∃ (t : State) (k : Nat), exec (.ringPush frames) s = .next t ∧
      k = min frames.length (s.params.ringCap - 1 - s.audio.fill s.params.ringCap) ∧
      t.audio.contents s.params.ringCap = s.audio.contents s.params.ringCap ++ frames.take k ∧
      t.audio.ring.length = s.audio.ring.length ∧
      (∀ slot, (∀ j, j < k → slot ≠ (s.audio.writePos.toNat + j) % s.params.ringCap) →
        t.audio.ring[slot]? = s.audio.ring[slot]?) ∧
      t.audio.writePos.toNat = (s.audio.writePos.toNat + k) % s.params.ringCap ∧
      t = { s with audio.ring := t.audio.ring, audio.writePos := t.audio.writePos, env.reply := .nat k }

/-- R344: a pop removes the oldest frames, fills the caller's buffer left channel first and with zeros past what there was,
counts one underrun where it came short, and returns how many it delivered; nothing else changes. -/
def Obligations.PopRemovesOldest : Prop :=
  ∀ (s : State) (n : Nat), s.params.Valid → s.audio.RingOk s.params.ringCap →
    ∃ (t : State) (k : Nat), exec (.popAudioFrames n) s = .next t ∧
      k = min n (s.audio.fill s.params.ringCap) ∧
      t.audio.contents s.params.ringCap = (s.audio.contents s.params.ringCap).drop k ∧
      t.audio.readPos.toNat = (s.audio.readPos.toNat + k) % s.params.ringCap ∧
      t.env.audioOut = (((s.audio.contents s.params.ringCap).take k).flatMap fun f => [f.l, f.r]) ++
        List.replicate (2 * (n - k)) 0 ∧
      t = { s with
            audio.readPos := t.audio.readPos
            audio.ringUnderruns := s.audio.ringUnderruns + (if k < n then 1 else 0)
            env.audioOut := t.env.audioOut
            env.reply := .nat k }

/-- R346: under any pushes and pops the ring is a first-in first-out queue of at most `P_RING_CAP - 1` frames that drops
what does not fit and never overwrites what is unread. -/
def Obligations.RingRefinesBoundedQueue : Prop :=
  ∀ (cap : Nat) (a : Audio) (acts : List RingAct), 2 ≤ cap → cap ≤ 2 ^ 32 → a.RingOk cap →
    (acts.foldl (fun b x => b.act cap x) a).RingOk cap ∧
    (acts.foldl (fun b x => b.act cap x) a).contents cap = acts.foldl (queueAct cap) (a.contents cap) ∧
    ((acts.foldl (fun b x => b.act cap x) a).contents cap).length ≤ cap - 1 ∧
    ((acts.foldl (fun b x => b.act cap x) a).fill cap = 0 ↔
      (acts.foldl (fun b x => b.act cap x) a).writePos = (acts.foldl (fun b x => b.act cap x) a).readPos)

/-- R342: `APU_ADVANCE` schedules as many frames as the accumulator holds samples, keeps the remainder, pushes what fits of
the frames the APU generates, whichever they are, and counts the rest as overflow; nothing else of the block changes, and
of the ring no slot but those written. For cycles of 2^31 or more, of which R342 says only that below them no wrap occurs,
the accumulator wraps modulo 2^64: log entry 16 (DEDUCED). -/
def Obligations.ApuAdvanceSchedulesAndPushes : Prop :=
  ∀ (s : State) (cycles : Nat), s.params.Valid → s.audio.RingOk s.params.ringCap →
    ∃ (t : State) (frames : List Frame) (written : Nat), exec (.apuAdvance cycles) s = .next t ∧
      frames.length = (s.audio.apuAccum.toNat + cycles * 2 ^ 32) % 2 ^ 64 / cyclesPerSampleFp s.params.sampleRate ∧
      t.audio.apuAccum.toNat =
        (s.audio.apuAccum.toNat + cycles * 2 ^ 32) % 2 ^ 64 % cyclesPerSampleFp s.params.sampleRate ∧
      written = min frames.length (s.params.ringCap - 1 - s.audio.fill s.params.ringCap) ∧
      t.audio.contents s.params.ringCap = s.audio.contents s.params.ringCap ++ frames.take written ∧
      t.audio.writePos.toNat = (s.audio.writePos.toNat + written) % s.params.ringCap ∧
      t.audio.ring.length = s.audio.ring.length ∧
      (∀ slot, (∀ j, j < written → slot ≠ (s.audio.writePos.toNat + j) % s.params.ringCap) →
        t.audio.ring[slot]? = s.audio.ring[slot]?) ∧
      t = { s with
            audio.apuAccum := t.audio.apuAccum
            audio.ring := t.audio.ring
            audio.writePos := t.audio.writePos
            audio.ringOverflowFrames := s.audio.ringOverflowFrames + (frames.length - written)
            env.apuFrames := s.env.apuFrames + frames.length }

/-- R349: from an empty accumulator, the frames scheduled over a run of calls are the floor of the total over
`cycles_per_sample_fp`, and the accumulator keeps the remainder; at the default rate a frame of 89407 T-states schedules
799. -/
def Obligations.RateLaw : Prop :=
  (∀ (s : State) (budgets : List Nat), s.params.Valid → s.audio.apuAccum = 0 → (∀ c ∈ budgets, c < 2 ^ 31) →
    ∃ t, runOps (budgets.map .apuAdvance) s = .next t ∧
      t.env.apuFrames = s.env.apuFrames + budgets.sum * 2 ^ 32 / cyclesPerSampleFp s.params.sampleRate ∧
      t.audio.apuAccum.toNat = budgets.sum * 2 ^ 32 % cyclesPerSampleFp s.params.sampleRate) ∧
  cyclesPerSampleFp 48000 = 480438397174 ∧
  89407 * 2 ^ 32 / 480438397174 = 799 ∧ 89407 * 2 ^ 32 % 480438397174 = 129861691446

/-- R146, R345: a pop changes nothing of the core, and two machines that differ only in what the timing of pops can change
still differ only in that after a scanline step. -/
def Obligations.PopsNeverReachTheCore : Prop :=
  (∀ (s : State) (n : Nat), ∃ t, exec (.popAudioFrames n) s = .next t ∧ s.SameCore t) ∧
  (∀ s u : State, s.SameCore u →
    ∃ t w, exec .scanlineStep s = .next t ∧ exec .scanlineStep u = .next w ∧ t.SameCore w)

/-! ## Power-on, reset, ROM -/

/-- R390, R392: what `RESET` writes, and what it leaves: the framebuffer, the ROM, the ring, both positions and the
underruns; and `RESET` twice is `RESET` once. That it leaves the agents' interface whole (`t.env = s.env`: the APU's history,
the draw counters, the buttons) is the model's choice, log entries 7 and 13 (DESIGN CHOICE). -/
def Obligations.ResetWritesEveryElement : Prop :=
  ∀ s : State, ∃ t, exec .reset s = .next t ∧
    t.sched.currentScanline = 0 ∧ t.sched.frameCounter = 0 ∧ t.sched.cpuCycleAccumulator = 0 ∧
    t.sched.cpuCycleDebt = 0 ∧ t.sched.totalTstatesExecuted = 0 ∧ t.sched.scanlineLog = [] ∧
    t.sched.vblankLatchLine = none ∧
    t.ppu.pending = ⟨0, 0, 0, 0, 0, 0, 0, 0, 0, 0⟩ ∧ t.ppu.active = ⟨0, 0, 0, 0, 0, 0, 0, 0, 0, 0⟩ ∧
    (∀ a, Memory.read t.ppu.stagedPal a = 0) ∧ (∀ a, Memory.read t.ppu.activePal a = 0) ∧
    (∀ e : Fin 128, t.ppu.activeArgb[e] = 0xFF000000) ∧ t.ppu.palAddr = 0 ∧
    (∀ a, Memory.read t.ppu.vram a = 0) ∧ t.ppu.vblank = false ∧ t.ppu.sprOvfLatch = false ∧
    t.irq = ⟨0, 0, false⟩ ∧ t.dma = ⟨0, 0, 0, 0, ⟨false, 0, 0, 0, false⟩, false, false⟩ ∧
    t.audio.apuAccum = 0 ∧ t.audio.ringOverflowFrames = 0 ∧ (∀ a, Memory.read t.wram a = 0) ∧
    t.ppu.fb = s.ppu.fb ∧ t.rom = s.rom ∧ t.audio.ring = s.audio.ring ∧ t.audio.writePos = s.audio.writePos ∧
    t.audio.readPos = s.audio.readPos ∧ t.audio.ringUnderruns = s.audio.ringUnderruns ∧ t.params = s.params ∧
    t.env = s.env ∧ exec .reset t = .next t

/-- R391: `POWER_ON` empties the framebuffer, the ring and the ROM, does what `RESET` does, and returns true; from the
model's reset state it gives that state again. That the agents' interface but the answer stays is the model's choice, log
entries 7 and 13 (DESIGN CHOICE). -/
def Obligations.PowerOnEmptiesAndResets : Prop :=
  (∀ s : State, ∃ t u, exec .powerOn s = .next t ∧ t.env.reply = .bool true ∧
    (∀ (y : Fin 192) (x : Fin 256), t.ppu.fb[y][x] = 0) ∧
    t.audio.ring = List.replicate s.params.ringCap ⟨0, 0⟩ ∧ t.audio.writePos = 0 ∧ t.audio.readPos = 0 ∧
    t.audio.ringOverflowFrames = 0 ∧ t.audio.ringUnderruns = 0 ∧ t.rom = [] ∧
    exec .reset s = .next u ∧
    t = { u with ppu.fb := t.ppu.fb, audio := t.audio, rom := t.rom, env.reply := .bool true } ∧
    t.audio.apuAccum = 0) ∧
  exec .powerOn State.reset = .next { State.reset with env.reply := .bool true }

/-- R393: an image of at most 32768 bytes becomes the ROM, a larger one changes nothing; the answer says which. -/
def Obligations.LoadRomCopiesOrRefuses : Prop :=
  ∀ (s : State) (bytes : List Byte),
    exec (.loadRom bytes) s =
      if bytes.length ≤ 32768 then .next { s with rom := bytes, env.reply := .bool true }
      else .next { s with env.reply := .bool false }

/-! ## Invariants -/

/-- The reset state meets the invariant. The reset values are the spec's (R390, R391) but for the agents' interface, which
the invariant does not speak of. -/
def Obligations.ResetMeetsInvariant : Prop :=
  State.reset.Inv ∧ State.reset.VblankPhase ∧ State.reset.irq.Settled

/-- Every step from a state that meets the invariant, whatever is requested, leaves a state that meets it: memories in
canonical form and within their sizes, palette bytes of nine bits, the colours those of the active palette, BUSY never 1,
a queued request never empty, both ring positions in range, both accumulators below one unit, the ROM within 32 KiB. -/
def Obligations.StepKeepsInvariant : Prop :=
  ∀ s t : State, s.Inv → step s = .next t → t.Inv
end

