-- ==== Sys2Proof/Laws/Decode.lean ====
section
/-! SUPPORT. The fields of a packed transaction, the row a transaction selects, and the readers of hook arguments on what
the encoder wrote. -/

namespace Sys2Proof

/-! ## Format IO -/

/-- The direction and port bits of a packed transaction (R110). -/
theorem ioWord_dirPort (d : Bool) (p v : Byte) : (ioWord d p v).extractLsb' 8 9 = BitVec.ofBool d ++ p := by
  apply BitVec.eq_of_getLsbD_eq
  intro i hi
  simp only [ioWord, BitVec.getLsbD_extractLsb', BitVec.getLsbD_append, hi, decide_true, Bool.true_and]
  rw [if_neg (by omega)]
  simp only [Nat.add_sub_cancel_left]

/-- The port of a packed transaction (R110). -/
@[simp] theorem ioWord_port (d : Bool) (p v : Byte) : (ioWord d p v).port = p := by
  apply BitVec.eq_of_getLsbD_eq
  intro i hi
  simp only [ioWord, IoWord.port, BitVec.getLsbD_extractLsb', BitVec.getLsbD_append, hi, decide_true, Bool.true_and]
  simp [hi]

/-- The data byte of a packed transaction (R110). -/
@[simp] theorem ioWord_data (d : Bool) (p v : Byte) : (ioWord d p v).data = v := by
  apply BitVec.eq_of_getLsbD_eq
  intro i hi
  simp only [ioWord, IoWord.data, BitVec.getLsbD_extractLsb', BitVec.getLsbD_append, hi, decide_true, Bool.true_and]
  simp [hi]

/-- A transaction decodes by the row of its direction and port (R110, R113). -/
theorem decodeIo_ioWord (d : Bool) (p v : Byte) :
    decodeIo (ioWord d p v) = (rowOf (BitVec.ofBool d ++ p)).map fun r => r.build p v := by
  simp [decodeIo, ioWord_dirPort]

/-! ## Hook arguments -/

/-- A `u16` argument is read back. -/
theorem takeHalf_halfBytes (w : Half) (rest : List Byte) : takeHalf (halfBytes w ++ rest) = .ok (w, rest) := by
  simp only [halfBytes, List.cons_append, List.nil_append, takeHalf]
  congr 2
  apply BitVec.eq_of_getLsbD_eq
  intro i hi
  rw [BitVec.getLsbD_append]
  by_cases h : i < 8
  · simp [h]
  · simp [h, show i - 8 < 8 by omega, show 8 + (i - 8) = i by omega]

/-- A Bool argument is read back. -/
theorem takeBool_boolByte (b : Bool) (rest : List Byte) : takeBool (boolByte b :: rest) = .ok (b, rest) := by
  cases b <;> rfl

/-- The reader of a `Nat` argument on the encoder's bytes, given enough fuel. -/
theorem takeNat_natBytesFuel (fuel : Nat) :
    ∀ n ≤ fuel, ∀ rest, takeNat (natBytesFuel fuel n ++ rest) = .ok (n, rest) := by
  induction fuel with
  | zero =>
    intro n h rest
    obtain rfl : n = 0 := by omega
    rfl
  | succ fuel ih =>
    intro n h rest
    unfold natBytesFuel
    split
    · rename_i hlt
      have hn : (BitVec.ofNat 8 n).toNat = n := by simp; omega
      simp only [List.cons_append, List.nil_append, takeNat, hn, hlt, if_true]
    · rename_i hge
      have hn : (BitVec.ofNat 8 (128 + n % 128)).toNat = 128 + n % 128 := by simp; omega
      simp only [List.cons_append, takeNat, hn, ih (n / 128) (by omega) rest]
      rw [if_neg (by omega)]
      congr 2
      omega

/-- A `Nat` argument is read back. -/
theorem takeNat_natBytes (n : Nat) (rest : List Byte) : takeNat (natBytes n ++ rest) = .ok (n, rest) :=
  takeNat_natBytesFuel n n le_rfl rest

/-- The image of `LOAD_ROM` is read back. -/
theorem takeBytes_append (bytes rest : List Byte) : takeBytes bytes.length (bytes ++ rest) = .ok (bytes, rest) := by
  induction bytes with
  | nil => rfl
  | cons b t ih => simp [takeBytes, ih]

/-- A 16-bit value is its two bytes. -/
theorem half_of_bytes (w : Half) : w.extractLsb' 8 8 ++ w.extractLsb' 0 8 = w := by
  have h := takeHalf_halfBytes w []
  simp only [halfBytes, List.append_nil, takeHalf, Except.ok.injEq, Prod.mk.injEq, and_true] at h
  exact h

/-- Stereo frames are read back. -/
theorem takeFrames_framesBytes (frames : List Frame) (rest : List Byte) :
    takeFrames frames.length (framesBytes frames ++ rest) = .ok (frames, rest) := by
  induction frames with
  | nil => rfl
  | cons f t ih => simp [framesBytes, halfBytes, takeFrames, ih, half_of_bytes]

/-- The eight buttons are read back (R197). -/
theorem buttonsOf_buttonsByte (b : Buttons) : buttonsOf (buttonsByte b) = b := by
  obtain ⟨b0, b1, b2, b3, b4, b5, b6, b7⟩ := b
  revert b0 b1 b2 b3 b4 b5 b6 b7
  decide +kernel

end Sys2Proof
end

