-- ==== Sys2Proof/Laws/Memory.lean ====
section
/-! SUPPORT. The laws of byte memories: a read after a write, and the canonical form kept by every operation. -/

namespace Sys2Proof.Machine

theorem Memory.read_erase_same (m : Memory) (a : Nat) : Memory.read (Memory.erase m a) a = Memory.unlisted := by
  induction m with
  | nil => rfl
  | cons c t ih =>
    unfold Memory.erase at *
    by_cases h : c.1 = a
    · simp [h, ih]
    · simp [h, Memory.read, ih]

theorem Memory.read_erase_other (m : Memory) {a b : Nat} (h : b ≠ a) :
    Memory.read (Memory.erase m a) b = Memory.read m b := by
  induction m with
  | nil => rfl
  | cons c t ih =>
    unfold Memory.erase at *
    by_cases hc : c.1 = a
    · simp [hc, Memory.read, ih]
      intro hab; exact absurd hab.symm h
    · simp [hc, Memory.read, ih]

theorem Memory.mem_erase {m : Memory} {a : Nat} {c : Host.Cell} (h : c ∈ Memory.erase m a) : c ∈ m ∧ c.1 ≠ a := by
  simpa [Memory.erase] using h

theorem Memory.read_insert_other (m : Memory) (a : Nat) (v : Byte) {b : Nat} (h : b ≠ a) :
    Memory.read (Memory.insert m a v) b = Memory.read m b := by
  induction m with
  | nil => simp [Memory.insert, Memory.read, Ne.symm h]
  | cons c t ih =>
    unfold Memory.insert
    split
    · simp [Memory.read, Ne.symm h]
    · simp [Memory.read, ih]

theorem Memory.read_insert_same (m : Memory) (a : Nat) (v : Byte) (h : ∀ c ∈ m, c.1 ≠ a) :
    Memory.read (Memory.insert m a v) a = v := by
  induction m with
  | nil => simp [Memory.insert, Memory.read]
  | cons c t ih =>
    have hc : c.1 ≠ a := h c (by simp)
    unfold Memory.insert
    split
    · simp [Memory.read]
    · simp [Memory.read, hc, ih (fun d hd => h d (by simp [hd]))]

/-- A read of the byte just written gives the value written, whatever the memory. -/
@[simp] theorem Memory.read_write_same (m : Memory) (a : Nat) (v : Byte) :
    Memory.read (Memory.write m a v) a = v := by
  unfold Memory.write
  split
  · rename_i h; rw [Memory.read_erase_same, h]
  · exact Memory.read_insert_same _ _ _ fun c hc => (Memory.mem_erase hc).2

/-- A write leaves every other byte alone. -/
theorem Memory.read_write_other (m : Memory) (v : Byte) {a b : Nat} (h : b ≠ a) :
    Memory.read (Memory.write m a v) b = Memory.read m b := by
  unfold Memory.write
  split
  · exact Memory.read_erase_other m h
  · rw [Memory.read_insert_other _ _ _ h, Memory.read_erase_other m h]

/-- A read after a write, at any address. -/
theorem Memory.read_write (m : Memory) (a b : Nat) (v : Byte) :
    Memory.read (Memory.write m a v) b = if b = a then v else Memory.read m b := by
  split
  · subst_vars; simp
  · rename_i h; exact Memory.read_write_other m v h

theorem Memory.mem_insert {m : Memory} {a : Nat} {v : Byte} {c : Host.Cell} (h : c ∈ Memory.insert m a v) :
    c = (a, v) ∨ c ∈ m := by
  induction m with
  | nil => simpa [Memory.insert] using h
  | cons d t ih =>
    unfold Memory.insert at h
    split at h
    · simpa using h
    · rcases List.mem_cons.1 h with h | h
      · simp [h]
      · rcases ih h with h | h
        · exact .inl h
        · simp [h]

theorem Memory.erase_wf {m : Memory} (a : Nat) (h : Memory.wf m) : Memory.wf (Memory.erase m a) :=
  ⟨h.1.filter _, fun c hc => h.2 c (Memory.mem_erase hc).1⟩

theorem Memory.insert_wf {m : Memory} {a : Nat} {v : Byte} (h : Memory.wf m) (ha : ∀ c ∈ m, c.1 ≠ a)
    (hv : v ≠ Memory.unlisted) : Memory.wf (Memory.insert m a v) := by
  constructor
  · induction m with
    | nil => simp [Memory.insert]
    | cons d t ih =>
      have hd := List.pairwise_cons.1 h.1
      have hda := ha d (by simp)
      unfold Memory.insert
      split
      · rename_i hlt
        refine List.pairwise_cons.2 ⟨fun c hc => ?_, h.1⟩
        rcases List.mem_cons.1 hc with rfl | hc
        · exact hlt
        · exact Nat.lt_trans hlt (hd.1 c hc)
      · rename_i hge
        refine List.pairwise_cons.2 ⟨fun c hc => ?_, ?_⟩
        · rcases Memory.mem_insert hc with rfl | hc
          · show d.1 < a
            omega
          · exact hd.1 c hc
        · exact ih ⟨hd.2, fun c hc => h.2 c (by simp [hc])⟩ fun c hc => ha c (by simp [hc])
  · intro c hc
    rcases Memory.mem_insert hc with rfl | hc
    · exact hv
    · exact h.2 c hc

/-- A write keeps the canonical form. -/
theorem Memory.write_wf {m : Memory} (a : Nat) (v : Byte) (h : Memory.wf m) : Memory.wf (Memory.write m a v) := by
  unfold Memory.write
  split
  · exact Memory.erase_wf a h
  · rename_i hv
    exact Memory.insert_wf (Memory.erase_wf a h) (fun c hc => (Memory.mem_erase hc).2) hv

/-- A write below a size keeps every listed address below it. -/
theorem Memory.write_below {m : Memory} {a size : Nat} (v : Byte) (h : Memory.Below m size) (ha : a < size) :
    Memory.Below (Memory.write m a v) size := by
  intro c hc
  unfold Memory.write at hc
  split at hc
  · exact h c (Memory.mem_erase hc).1
  · rcases Memory.mem_insert hc with rfl | hc
    · exact ha
    · exact h c (Memory.mem_erase hc).1

/-- The empty memory, that of reset, has the canonical form. -/
theorem Memory.nil_wf : Memory.wf [] := ⟨List.Pairwise.nil, by simp⟩

/-- Every address of the empty memory reads as an unlisted address does. -/
@[simp] theorem Memory.read_nil (a : Nat) : Memory.read [] a = Memory.unlisted := rfl

/-- Two canonical memories that read the same everywhere are the same data. -/
theorem Memory.ext_read {m n : Memory} (hm : Memory.wf m) (hn : Memory.wf n)
    (h : ∀ a, Memory.read m a = Memory.read n a) : m = n := by
  have below : ∀ (t : Memory) (a : Nat), (∀ d ∈ t, a < d.1) → Memory.read t a = Memory.unlisted := by
    intro t
    induction t with
    | nil => intros; rfl
    | cons d t ih =>
      intro a ha
      have : d.1 ≠ a := by have := ha d (by simp); omega
      simp [Memory.read, this, ih a fun e he => ha e (by simp [he])]
  induction m generalizing n with
  | nil =>
    cases n with
    | nil => rfl
    | cons d t =>
      have := h d.1
      simp [Memory.read] at this
      exact absurd this.symm (hn.2 d (by simp))
  | cons c s ih =>
    cases n with
    | nil =>
      have := h c.1
      simp [Memory.read] at this
      exact absurd this (hm.2 c (by simp))
    | cons d t =>
      have hs := List.pairwise_cons.1 hm.1
      have ht := List.pairwise_cons.1 hn.1
      have hcd : c.1 = d.1 := by
        rcases Nat.lt_trichotomy c.1 d.1 with hlt | heq | hgt
        · have h1 := h c.1
          have h2 : d.1 ≠ c.1 := by omega
          simp [Memory.read, h2, below t c.1 fun e he => Nat.lt_trans hlt (ht.1 e he)] at h1
          exact absurd h1 (hm.2 c (by simp))
        · exact heq
        · have h1 := h d.1
          have h2 : c.1 ≠ d.1 := by omega
          simp [Memory.read, h2, below s d.1 fun e he => Nat.lt_trans hgt (hs.1 e he)] at h1
          exact absurd h1.symm (hn.2 d (by simp))
      have hv : c.2 = d.2 := by have := h c.1; simpa [Memory.read, hcd] using this
      have hst : s = t := by
        refine ih ⟨hs.2, fun e he => hm.2 e (by simp [he])⟩ ⟨ht.2, fun e he => hn.2 e (by simp [he])⟩ fun a => ?_
        by_cases ha : a = c.1
        · subst ha
          rw [below s c.1 hs.1, below t c.1 (by rw [hcd]; exact ht.1)]
        · have := h a
          have h1 : c.1 ≠ a := Ne.symm ha
          simpa [Memory.read, h1, ← hcd] using this
      rw [hst, Prod.ext hcd hv]

end Sys2Proof.Machine
end

