-- ==== Sys2Proof/Laws/State.lean ====
section
/-! SUPPORT. The small lemmas of the state's updates: for each operation that writes the state, every part of the state
after it. -/

namespace Sys2Proof.Machine

section
variable (s : State)

@[simp] theorem State.answer_params (r : Reply) : (s.answer r).params = s.params := rfl
@[simp] theorem State.answer_sched (r : Reply) : (s.answer r).sched = s.sched := rfl
@[simp] theorem State.answer_ppu (r : Reply) : (s.answer r).ppu = s.ppu := rfl
@[simp] theorem State.answer_irq (r : Reply) : (s.answer r).irq = s.irq := rfl
@[simp] theorem State.answer_dma (r : Reply) : (s.answer r).dma = s.dma := rfl
@[simp] theorem State.answer_audio (r : Reply) : (s.answer r).audio = s.audio := rfl
@[simp] theorem State.answer_wram (r : Reply) : (s.answer r).wram = s.wram := rfl
@[simp] theorem State.answer_rom (r : Reply) : (s.answer r).rom = s.rom := rfl
@[simp] theorem State.answer_env (r : Reply) : (s.answer r).env = { s.env with reply := r } := rfl

@[simp] theorem State.answerByte_params (v : Byte) : (s.answerByte v).params = s.params := rfl
@[simp] theorem State.answerByte_sched (v : Byte) : (s.answerByte v).sched = s.sched := rfl
@[simp] theorem State.answerByte_ppu (v : Byte) : (s.answerByte v).ppu = s.ppu := rfl
@[simp] theorem State.answerByte_irq (v : Byte) : (s.answerByte v).irq = s.irq := rfl
@[simp] theorem State.answerByte_dma (v : Byte) : (s.answerByte v).dma = s.dma := rfl
@[simp] theorem State.answerByte_audio (v : Byte) : (s.answerByte v).audio = s.audio := rfl
@[simp] theorem State.answerByte_wram (v : Byte) : (s.answerByte v).wram = s.wram := rfl
@[simp] theorem State.answerByte_rom (v : Byte) : (s.answerByte v).rom = s.rom := rfl
@[simp] theorem State.answerByte_env (v : Byte) : (s.answerByte v).env = { s.env with reply := .byte v } := rfl

@[simp] theorem State.vramWrite_params (a : Nat) (v : Byte) : (s.vramWrite a v).params = s.params := rfl
@[simp] theorem State.vramWrite_sched (a : Nat) (v : Byte) : (s.vramWrite a v).sched = s.sched := rfl
@[simp] theorem State.vramWrite_ppu (a : Nat) (v : Byte) :
    (s.vramWrite a v).ppu = { s.ppu with vram := Memory.write s.ppu.vram (a % Config.vramSize) v } := rfl
@[simp] theorem State.vramWrite_irq (a : Nat) (v : Byte) : (s.vramWrite a v).irq = s.irq := rfl
@[simp] theorem State.vramWrite_dma (a : Nat) (v : Byte) : (s.vramWrite a v).dma = s.dma := rfl
@[simp] theorem State.vramWrite_audio (a : Nat) (v : Byte) : (s.vramWrite a v).audio = s.audio := rfl
@[simp] theorem State.vramWrite_wram (a : Nat) (v : Byte) : (s.vramWrite a v).wram = s.wram := rfl
@[simp] theorem State.vramWrite_rom (a : Nat) (v : Byte) : (s.vramWrite a v).rom = s.rom := rfl
@[simp] theorem State.vramWrite_env (a : Nat) (v : Byte) : (s.vramWrite a v).env = s.env := rfl

@[simp] theorem State.palWriteByte_params (a v : Byte) : (s.palWriteByte a v).params = s.params := rfl
@[simp] theorem State.palWriteByte_sched (a v : Byte) : (s.palWriteByte a v).sched = s.sched := rfl
@[simp] theorem State.palWriteByte_ppu (a v : Byte) :
    (s.palWriteByte a v).ppu = { s.ppu with stagedPal := Memory.write s.ppu.stagedPal a.toNat (palMask a v) } := rfl
@[simp] theorem State.palWriteByte_irq (a v : Byte) : (s.palWriteByte a v).irq = s.irq := rfl
@[simp] theorem State.palWriteByte_dma (a v : Byte) : (s.palWriteByte a v).dma = s.dma := rfl
@[simp] theorem State.palWriteByte_audio (a v : Byte) : (s.palWriteByte a v).audio = s.audio := rfl
@[simp] theorem State.palWriteByte_wram (a v : Byte) : (s.palWriteByte a v).wram = s.wram := rfl
@[simp] theorem State.palWriteByte_rom (a v : Byte) : (s.palWriteByte a v).rom = s.rom := rfl
@[simp] theorem State.palWriteByte_env (a v : Byte) : (s.palWriteByte a v).env = s.env := rfl

@[simp] theorem State.memWrite_params (a : Half) (v : Byte) : (s.memWrite a v).params = s.params := by
  unfold State.memWrite; split <;> rfl
@[simp] theorem State.memWrite_sched (a : Half) (v : Byte) : (s.memWrite a v).sched = s.sched := by
  unfold State.memWrite; split <;> rfl
@[simp] theorem State.memWrite_ppu (a : Half) (v : Byte) : (s.memWrite a v).ppu = s.ppu := by
  unfold State.memWrite; split <;> rfl
@[simp] theorem State.memWrite_irq (a : Half) (v : Byte) : (s.memWrite a v).irq = s.irq := by
  unfold State.memWrite; split <;> rfl
@[simp] theorem State.memWrite_dma (a : Half) (v : Byte) : (s.memWrite a v).dma = s.dma := by
  unfold State.memWrite; split <;> rfl
@[simp] theorem State.memWrite_audio (a : Half) (v : Byte) : (s.memWrite a v).audio = s.audio := by
  unfold State.memWrite; split <;> rfl
@[simp] theorem State.memWrite_wram (a : Half) (v : Byte) :
    (s.memWrite a v).wram = if 0xC000 ≤ a.toNat then Memory.write s.wram (a.toNat - 0xC000) v else s.wram := by
  unfold State.memWrite; split <;> rfl
@[simp] theorem State.memWrite_rom (a : Half) (v : Byte) : (s.memWrite a v).rom = s.rom := by
  unfold State.memWrite; split <;> rfl
@[simp] theorem State.memWrite_env (a : Half) (v : Byte) : (s.memWrite a v).env = s.env := by
  unfold State.memWrite; split <;> rfl

@[simp] theorem State.recompute_params : (s.recompute).params = s.params := rfl
@[simp] theorem State.recompute_sched : (s.recompute).sched = s.sched := rfl
@[simp] theorem State.recompute_ppu : (s.recompute).ppu = s.ppu := rfl
@[simp] theorem State.recompute_irq :
    (s.recompute).irq = { s.irq with intLine := intAsserted s.irq.pending s.irq.enable } := rfl
@[simp] theorem State.recompute_dma : (s.recompute).dma = s.dma := rfl
@[simp] theorem State.recompute_audio : (s.recompute).audio = s.audio := rfl
@[simp] theorem State.recompute_wram : (s.recompute).wram = s.wram := rfl
@[simp] theorem State.recompute_rom : (s.recompute).rom = s.rom := rfl
@[simp] theorem State.recompute_env : (s.recompute).env = s.env := rfl

@[simp] theorem State.raise_params (mask : Byte) : (s.raise mask).params = s.params := rfl
@[simp] theorem State.raise_sched (mask : Byte) : (s.raise mask).sched = s.sched := rfl
@[simp] theorem State.raise_ppu (mask : Byte) : (s.raise mask).ppu = s.ppu := rfl
@[simp] theorem State.raise_irq (mask : Byte) :
    (s.raise mask).irq = { s.irq with pending := s.irq.pending ||| mask } := rfl
@[simp] theorem State.raise_dma (mask : Byte) : (s.raise mask).dma = s.dma := rfl
@[simp] theorem State.raise_audio (mask : Byte) : (s.raise mask).audio = s.audio := rfl
@[simp] theorem State.raise_wram (mask : Byte) : (s.raise mask).wram = s.wram := rfl
@[simp] theorem State.raise_rom (mask : Byte) : (s.raise mask).rom = s.rom := rfl
@[simp] theorem State.raise_env (mask : Byte) : (s.raise mask).env = s.env := rfl

@[simp] theorem State.raiseIf_params (c : Bool) (mask : Byte) : (s.raiseIf c mask).params = s.params := by
  unfold State.raiseIf; split <;> rfl
@[simp] theorem State.raiseIf_sched (c : Bool) (mask : Byte) : (s.raiseIf c mask).sched = s.sched := by
  unfold State.raiseIf; split <;> rfl
@[simp] theorem State.raiseIf_ppu (c : Bool) (mask : Byte) : (s.raiseIf c mask).ppu = s.ppu := by
  unfold State.raiseIf; split <;> rfl
@[simp] theorem State.raiseIf_irq (c : Bool) (mask : Byte) :
    (s.raiseIf c mask).irq = if c then { s.irq with pending := s.irq.pending ||| mask } else s.irq := by
  unfold State.raiseIf; split <;> rfl
@[simp] theorem State.raiseIf_dma (c : Bool) (mask : Byte) : (s.raiseIf c mask).dma = s.dma := by
  unfold State.raiseIf; split <;> rfl
@[simp] theorem State.raiseIf_audio (c : Bool) (mask : Byte) : (s.raiseIf c mask).audio = s.audio := by
  unfold State.raiseIf; split <;> rfl
@[simp] theorem State.raiseIf_wram (c : Bool) (mask : Byte) : (s.raiseIf c mask).wram = s.wram := by
  unfold State.raiseIf; split <;> rfl
@[simp] theorem State.raiseIf_rom (c : Bool) (mask : Byte) : (s.raiseIf c mask).rom = s.rom := by
  unfold State.raiseIf; split <;> rfl
@[simp] theorem State.raiseIf_env (c : Bool) (mask : Byte) : (s.raiseIf c mask).env = s.env := by
  unfold State.raiseIf; split <;> rfl

@[simp] theorem State.irqAck_params (mask : Byte) : (s.irqAck mask).params = s.params := rfl
@[simp] theorem State.irqAck_sched (mask : Byte) : (s.irqAck mask).sched = s.sched := rfl
@[simp] theorem State.irqAck_ppu (mask : Byte) : (s.irqAck mask).ppu = s.ppu := rfl
@[simp] theorem State.irqAck_irq (mask : Byte) :
    (s.irqAck mask).irq = ⟨clearBits s.irq.pending mask, s.irq.enable, intAsserted (clearBits s.irq.pending mask) s.irq.enable⟩ := rfl
@[simp] theorem State.irqAck_dma (mask : Byte) : (s.irqAck mask).dma = s.dma := rfl
@[simp] theorem State.irqAck_audio (mask : Byte) : (s.irqAck mask).audio = s.audio := rfl
@[simp] theorem State.irqAck_wram (mask : Byte) : (s.irqAck mask).wram = s.wram := rfl
@[simp] theorem State.irqAck_rom (mask : Byte) : (s.irqAck mask).rom = s.rom := rfl
@[simp] theorem State.irqAck_env (mask : Byte) : (s.irqAck mask).env = s.env := rfl

@[simp] theorem State.irqWriteEnable_params (mask : Byte) : (s.irqWriteEnable mask).params = s.params := rfl
@[simp] theorem State.irqWriteEnable_sched (mask : Byte) : (s.irqWriteEnable mask).sched = s.sched := rfl
@[simp] theorem State.irqWriteEnable_ppu (mask : Byte) : (s.irqWriteEnable mask).ppu = s.ppu := rfl
@[simp] theorem State.irqWriteEnable_irq (mask : Byte) :
    (s.irqWriteEnable mask).irq = ⟨s.irq.pending, mask, intAsserted s.irq.pending mask⟩ := rfl
@[simp] theorem State.irqWriteEnable_dma (mask : Byte) : (s.irqWriteEnable mask).dma = s.dma := rfl
@[simp] theorem State.irqWriteEnable_audio (mask : Byte) : (s.irqWriteEnable mask).audio = s.audio := rfl
@[simp] theorem State.irqWriteEnable_wram (mask : Byte) : (s.irqWriteEnable mask).wram = s.wram := rfl
@[simp] theorem State.irqWriteEnable_rom (mask : Byte) : (s.irqWriteEnable mask).rom = s.rom := rfl
@[simp] theorem State.irqWriteEnable_env (mask : Byte) : (s.irqWriteEnable mask).env = s.env := rfl

@[simp] theorem State.portIrqAck_params (v : Byte) : (s.portIrqAck v).params = s.params := rfl
@[simp] theorem State.portIrqAck_sched (v : Byte) : (s.portIrqAck v).sched = s.sched := rfl
@[simp] theorem State.portIrqAck_ppu (v : Byte) : (s.portIrqAck v).ppu = s.ppu := rfl
@[simp] theorem State.portIrqAck_irq (v : Byte) :
    (s.portIrqAck v).irq = ⟨clearBits s.irq.pending v, s.irq.enable, intAsserted (clearBits s.irq.pending v) s.irq.enable⟩ := rfl
@[simp] theorem State.portIrqAck_dma (v : Byte) : (s.portIrqAck v).dma = s.dma := rfl
@[simp] theorem State.portIrqAck_audio (v : Byte) : (s.portIrqAck v).audio = s.audio := rfl
@[simp] theorem State.portIrqAck_wram (v : Byte) : (s.portIrqAck v).wram = s.wram := rfl
@[simp] theorem State.portIrqAck_rom (v : Byte) : (s.portIrqAck v).rom = s.rom := rfl
@[simp] theorem State.portIrqAck_env (v : Byte) : (s.portIrqAck v).env = s.env := rfl

@[simp] theorem State.writePending_params (k : PpuReg) (v : Byte) : (s.writePending k v).params = s.params := rfl
@[simp] theorem State.writePending_sched (k : PpuReg) (v : Byte) : (s.writePending k v).sched = s.sched := rfl
@[simp] theorem State.writePending_ppu (k : PpuReg) (v : Byte) :
    (s.writePending k v).ppu = { s.ppu with pending := s.ppu.pending.put k v } := rfl
@[simp] theorem State.writePending_irq (k : PpuReg) (v : Byte) : (s.writePending k v).irq = s.irq := rfl
@[simp] theorem State.writePending_dma (k : PpuReg) (v : Byte) : (s.writePending k v).dma = s.dma := rfl
@[simp] theorem State.writePending_audio (k : PpuReg) (v : Byte) : (s.writePending k v).audio = s.audio := rfl
@[simp] theorem State.writePending_wram (k : PpuReg) (v : Byte) : (s.writePending k v).wram = s.wram := rfl
@[simp] theorem State.writePending_rom (k : PpuReg) (v : Byte) : (s.writePending k v).rom = s.rom := rfl
@[simp] theorem State.writePending_env (k : PpuReg) (v : Byte) : (s.writePending k v).env = s.env := rfl

@[simp] theorem State.writePalAddr_params (v : Byte) : (s.writePalAddr v).params = s.params := rfl
@[simp] theorem State.writePalAddr_sched (v : Byte) : (s.writePalAddr v).sched = s.sched := rfl
@[simp] theorem State.writePalAddr_ppu (v : Byte) : (s.writePalAddr v).ppu = { s.ppu with palAddr := v } := rfl
@[simp] theorem State.writePalAddr_irq (v : Byte) : (s.writePalAddr v).irq = s.irq := rfl
@[simp] theorem State.writePalAddr_dma (v : Byte) : (s.writePalAddr v).dma = s.dma := rfl
@[simp] theorem State.writePalAddr_audio (v : Byte) : (s.writePalAddr v).audio = s.audio := rfl
@[simp] theorem State.writePalAddr_wram (v : Byte) : (s.writePalAddr v).wram = s.wram := rfl
@[simp] theorem State.writePalAddr_rom (v : Byte) : (s.writePalAddr v).rom = s.rom := rfl
@[simp] theorem State.writePalAddr_env (v : Byte) : (s.writePalAddr v).env = s.env := rfl

@[simp] theorem State.bumpPalAddr_params : (s.bumpPalAddr).params = s.params := rfl
@[simp] theorem State.bumpPalAddr_sched : (s.bumpPalAddr).sched = s.sched := rfl
@[simp] theorem State.bumpPalAddr_ppu : (s.bumpPalAddr).ppu = { s.ppu with palAddr := s.ppu.palAddr + 1 } := rfl
@[simp] theorem State.bumpPalAddr_irq : (s.bumpPalAddr).irq = s.irq := rfl
@[simp] theorem State.bumpPalAddr_dma : (s.bumpPalAddr).dma = s.dma := rfl
@[simp] theorem State.bumpPalAddr_audio : (s.bumpPalAddr).audio = s.audio := rfl
@[simp] theorem State.bumpPalAddr_wram : (s.bumpPalAddr).wram = s.wram := rfl
@[simp] theorem State.bumpPalAddr_rom : (s.bumpPalAddr).rom = s.rom := rfl
@[simp] theorem State.bumpPalAddr_env : (s.bumpPalAddr).env = s.env := rfl

@[simp] theorem State.writePalData_params (v : Byte) : (s.writePalData v).params = s.params := rfl
@[simp] theorem State.writePalData_sched (v : Byte) : (s.writePalData v).sched = s.sched := rfl
@[simp] theorem State.writePalData_ppu (v : Byte) :
    (s.writePalData v).ppu = { s.ppu with stagedPal := Memory.write s.ppu.stagedPal s.ppu.palAddr.toNat (palMask s.ppu.palAddr v), palAddr := s.ppu.palAddr + 1 } := rfl
@[simp] theorem State.writePalData_irq (v : Byte) : (s.writePalData v).irq = s.irq := rfl
@[simp] theorem State.writePalData_dma (v : Byte) : (s.writePalData v).dma = s.dma := rfl
@[simp] theorem State.writePalData_audio (v : Byte) : (s.writePalData v).audio = s.audio := rfl
@[simp] theorem State.writePalData_wram (v : Byte) : (s.writePalData v).wram = s.wram := rfl
@[simp] theorem State.writePalData_rom (v : Byte) : (s.writePalData v).rom = s.rom := rfl
@[simp] theorem State.writePalData_env (v : Byte) : (s.writePalData v).env = s.env := rfl

@[simp] theorem State.writeDmaReg_params (k : DmaReg) (v : Byte) : (s.writeDmaReg k v).params = s.params := rfl
@[simp] theorem State.writeDmaReg_sched (k : DmaReg) (v : Byte) : (s.writeDmaReg k v).sched = s.sched := rfl
@[simp] theorem State.writeDmaReg_ppu (k : DmaReg) (v : Byte) : (s.writeDmaReg k v).ppu = s.ppu := rfl
@[simp] theorem State.writeDmaReg_irq (k : DmaReg) (v : Byte) : (s.writeDmaReg k v).irq = s.irq := rfl
@[simp] theorem State.writeDmaReg_dma (k : DmaReg) (v : Byte) : (s.writeDmaReg k v).dma = s.dma.put k v := rfl
@[simp] theorem State.writeDmaReg_audio (k : DmaReg) (v : Byte) : (s.writeDmaReg k v).audio = s.audio := rfl
@[simp] theorem State.writeDmaReg_wram (k : DmaReg) (v : Byte) : (s.writeDmaReg k v).wram = s.wram := rfl
@[simp] theorem State.writeDmaReg_rom (k : DmaReg) (v : Byte) : (s.writeDmaReg k v).rom = s.rom := rfl
@[simp] theorem State.writeDmaReg_env (k : DmaReg) (v : Byte) : (s.writeDmaReg k v).env = s.env := rfl

@[simp] theorem State.writeDmaCtrl_params (v : Byte) : (s.writeDmaCtrl v).params = s.params := rfl
@[simp] theorem State.writeDmaCtrl_sched (v : Byte) : (s.writeDmaCtrl v).sched = s.sched := rfl
@[simp] theorem State.writeDmaCtrl_ppu (v : Byte) : (s.writeDmaCtrl v).ppu = s.ppu := rfl
@[simp] theorem State.writeDmaCtrl_irq (v : Byte) : (s.writeDmaCtrl v).irq = s.irq := rfl
@[simp] theorem State.writeDmaCtrl_dma (v : Byte) :
    (s.writeDmaCtrl v).dma = { s.dma with ctrl := withoutBusy v } := rfl
@[simp] theorem State.writeDmaCtrl_audio (v : Byte) : (s.writeDmaCtrl v).audio = s.audio := rfl
@[simp] theorem State.writeDmaCtrl_wram (v : Byte) : (s.writeDmaCtrl v).wram = s.wram := rfl
@[simp] theorem State.writeDmaCtrl_rom (v : Byte) : (s.writeDmaCtrl v).rom = s.rom := rfl
@[simp] theorem State.writeDmaCtrl_env (v : Byte) : (s.writeDmaCtrl v).env = s.env := rfl

@[simp] theorem State.apuWrite_params (port v : Byte) : (s.apuWrite port v).params = s.params := rfl
@[simp] theorem State.apuWrite_sched (port v : Byte) : (s.apuWrite port v).sched = s.sched := rfl
@[simp] theorem State.apuWrite_ppu (port v : Byte) : (s.apuWrite port v).ppu = s.ppu := rfl
@[simp] theorem State.apuWrite_irq (port v : Byte) : (s.apuWrite port v).irq = s.irq := rfl
@[simp] theorem State.apuWrite_dma (port v : Byte) : (s.apuWrite port v).dma = s.dma := rfl
@[simp] theorem State.apuWrite_audio (port v : Byte) : (s.apuWrite port v).audio = s.audio := rfl
@[simp] theorem State.apuWrite_wram (port v : Byte) : (s.apuWrite port v).wram = s.wram := rfl
@[simp] theorem State.apuWrite_rom (port v : Byte) : (s.apuWrite port v).rom = s.rom := rfl
@[simp] theorem State.apuWrite_env (port v : Byte) :
    (s.apuWrite port v).env = { s.env with apuWrites := s.env.apuWrites ++ [⟨s.env.apuFrames, port, v⟩] } := rfl

@[simp] theorem State.apuReadDrawn_params : (s.apuReadDrawn).params = s.params := rfl
@[simp] theorem State.apuReadDrawn_sched : (s.apuReadDrawn).sched = s.sched := rfl
@[simp] theorem State.apuReadDrawn_ppu : (s.apuReadDrawn).ppu = s.ppu := rfl
@[simp] theorem State.apuReadDrawn_irq : (s.apuReadDrawn).irq = s.irq := rfl
@[simp] theorem State.apuReadDrawn_dma : (s.apuReadDrawn).dma = s.dma := rfl
@[simp] theorem State.apuReadDrawn_audio : (s.apuReadDrawn).audio = s.audio := rfl
@[simp] theorem State.apuReadDrawn_wram : (s.apuReadDrawn).wram = s.wram := rfl
@[simp] theorem State.apuReadDrawn_rom : (s.apuReadDrawn).rom = s.rom := rfl
@[simp] theorem State.apuReadDrawn_env : (s.apuReadDrawn).env = { s.env with apuReads := s.env.apuReads + 1 } := rfl

@[simp] theorem State.see_params (x : CpuSeen) : (s.see x).params = s.params := rfl
@[simp] theorem State.see_sched (x : CpuSeen) : (s.see x).sched = s.sched := rfl
@[simp] theorem State.see_ppu (x : CpuSeen) : (s.see x).ppu = s.ppu := rfl
@[simp] theorem State.see_irq (x : CpuSeen) : (s.see x).irq = s.irq := rfl
@[simp] theorem State.see_dma (x : CpuSeen) : (s.see x).dma = s.dma := rfl
@[simp] theorem State.see_audio (x : CpuSeen) : (s.see x).audio = s.audio := rfl
@[simp] theorem State.see_wram (x : CpuSeen) : (s.see x).wram = s.wram := rfl
@[simp] theorem State.see_rom (x : CpuSeen) : (s.see x).rom = s.rom := rfl
@[simp] theorem State.see_env (x : CpuSeen) : (s.see x).env = { s.env with cpuSeen := s.env.cpuSeen ++ [x] } := rfl

@[simp] theorem State.dmaEnqueue_params : (s.dmaEnqueue).params = s.params := rfl
@[simp] theorem State.dmaEnqueue_sched : (s.dmaEnqueue).sched = s.sched := rfl
@[simp] theorem State.dmaEnqueue_ppu : (s.dmaEnqueue).ppu = s.ppu := rfl
@[simp] theorem State.dmaEnqueue_irq : (s.dmaEnqueue).irq = s.irq := rfl
@[simp] theorem State.dmaEnqueue_dma :
    (s.dmaEnqueue).dma = { s.dma with queue := ⟨true, s.dma.src, s.dma.dst, s.dma.len, dmaDstIsPalette s.dma.ctrl⟩ } := rfl
@[simp] theorem State.dmaEnqueue_audio : (s.dmaEnqueue).audio = s.audio := rfl
@[simp] theorem State.dmaEnqueue_wram : (s.dmaEnqueue).wram = s.wram := rfl
@[simp] theorem State.dmaEnqueue_rom : (s.dmaEnqueue).rom = s.rom := rfl
@[simp] theorem State.dmaEnqueue_env : (s.dmaEnqueue).env = s.env := rfl

@[simp] theorem State.dmaDrop_params : (s.dmaDrop).params = s.params := rfl
@[simp] theorem State.dmaDrop_sched : (s.dmaDrop).sched = s.sched := rfl
@[simp] theorem State.dmaDrop_ppu : (s.dmaDrop).ppu = s.ppu := rfl
@[simp] theorem State.dmaDrop_irq : (s.dmaDrop).irq = s.irq := rfl
@[simp] theorem State.dmaDrop_dma : (s.dmaDrop).dma = { s.dma with lastIllegalStart := true } := rfl
@[simp] theorem State.dmaDrop_audio : (s.dmaDrop).audio = s.audio := rfl
@[simp] theorem State.dmaDrop_wram : (s.dmaDrop).wram = s.wram := rfl
@[simp] theorem State.dmaDrop_rom : (s.dmaDrop).rom = s.rom := rfl
@[simp] theorem State.dmaDrop_env : (s.dmaDrop).env = s.env := rfl

@[simp] theorem State.dmaConsumeStart_params : (s.dmaConsumeStart).params = s.params := rfl
@[simp] theorem State.dmaConsumeStart_sched : (s.dmaConsumeStart).sched = s.sched := rfl
@[simp] theorem State.dmaConsumeStart_ppu : (s.dmaConsumeStart).ppu = s.ppu := rfl
@[simp] theorem State.dmaConsumeStart_irq : (s.dmaConsumeStart).irq = s.irq := rfl
@[simp] theorem State.dmaConsumeStart_dma :
    (s.dmaConsumeStart).dma = { s.dma with ctrl := clearStart s.dma.ctrl } := rfl
@[simp] theorem State.dmaConsumeStart_audio : (s.dmaConsumeStart).audio = s.audio := rfl
@[simp] theorem State.dmaConsumeStart_wram : (s.dmaConsumeStart).wram = s.wram := rfl
@[simp] theorem State.dmaConsumeStart_rom : (s.dmaConsumeStart).rom = s.rom := rfl
@[simp] theorem State.dmaConsumeStart_env : (s.dmaConsumeStart).env = s.env := rfl

@[simp] theorem State.writeLine_params (n : Fin 192) (line : Vector Argb 256) :
    (s.writeLine n line).params = s.params := rfl
@[simp] theorem State.writeLine_sched (n : Fin 192) (line : Vector Argb 256) :
    (s.writeLine n line).sched = s.sched := rfl
@[simp] theorem State.writeLine_ppu (n : Fin 192) (line : Vector Argb 256) :
    (s.writeLine n line).ppu = { s.ppu with fb := s.ppu.fb.set n line } := rfl
@[simp] theorem State.writeLine_irq (n : Fin 192) (line : Vector Argb 256) : (s.writeLine n line).irq = s.irq := rfl
@[simp] theorem State.writeLine_dma (n : Fin 192) (line : Vector Argb 256) : (s.writeLine n line).dma = s.dma := rfl
@[simp] theorem State.writeLine_audio (n : Fin 192) (line : Vector Argb 256) :
    (s.writeLine n line).audio = s.audio := rfl
@[simp] theorem State.writeLine_wram (n : Fin 192) (line : Vector Argb 256) :
    (s.writeLine n line).wram = s.wram := rfl
@[simp] theorem State.writeLine_rom (n : Fin 192) (line : Vector Argb 256) : (s.writeLine n line).rom = s.rom := rfl
@[simp] theorem State.writeLine_env (n : Fin 192) (line : Vector Argb 256) : (s.writeLine n line).env = s.env := rfl

@[simp] theorem State.latchOverflow_params (o : Bool) : (s.latchOverflow o).params = s.params := by
  cases o <;> cases h : s.params.irqSprOvf <;> simp [State.latchOverflow, State.raiseIf, State.raise, h]
@[simp] theorem State.latchOverflow_sched (o : Bool) : (s.latchOverflow o).sched = s.sched := by
  cases o <;> cases h : s.params.irqSprOvf <;> simp [State.latchOverflow, State.raiseIf, State.raise, h]
@[simp] theorem State.latchOverflow_ppu (o : Bool) :
    (s.latchOverflow o).ppu = if o then { s.ppu with sprOvfLatch := true } else s.ppu := by
  cases o <;> cases h : s.params.irqSprOvf <;> simp [State.latchOverflow, State.raiseIf, State.raise, h]
@[simp] theorem State.latchOverflow_irq (o : Bool) :
    (s.latchOverflow o).irq = if o && s.params.irqSprOvf then { s.irq with pending := s.irq.pending ||| irqSprOverflow } else s.irq := by
  cases o <;> cases h : s.params.irqSprOvf <;> simp [State.latchOverflow, State.raiseIf, State.raise, h]
@[simp] theorem State.latchOverflow_dma (o : Bool) : (s.latchOverflow o).dma = s.dma := by
  cases o <;> cases h : s.params.irqSprOvf <;> simp [State.latchOverflow, State.raiseIf, State.raise, h]
@[simp] theorem State.latchOverflow_audio (o : Bool) : (s.latchOverflow o).audio = s.audio := by
  cases o <;> cases h : s.params.irqSprOvf <;> simp [State.latchOverflow, State.raiseIf, State.raise, h]
@[simp] theorem State.latchOverflow_wram (o : Bool) : (s.latchOverflow o).wram = s.wram := by
  cases o <;> cases h : s.params.irqSprOvf <;> simp [State.latchOverflow, State.raiseIf, State.raise, h]
@[simp] theorem State.latchOverflow_rom (o : Bool) : (s.latchOverflow o).rom = s.rom := by
  cases o <;> cases h : s.params.irqSprOvf <;> simp [State.latchOverflow, State.raiseIf, State.raise, h]
@[simp] theorem State.latchOverflow_env (o : Bool) : (s.latchOverflow o).env = s.env := by
  cases o <;> cases h : s.params.irqSprOvf <;> simp [State.latchOverflow, State.raiseIf, State.raise, h]

@[simp] theorem State.takeBudget_params : (s.takeBudget).params = s.params := rfl
@[simp] theorem State.takeBudget_sched :
    (s.takeBudget).sched = { s.sched with cpuCycleAccumulator := s.accumulatorPlus - s.rawBudget, cpuCycleDebt := s.sched.cpuCycleDebt - s.debtPaid, scanlineLog := (s.lineRecord :: s.sched.scanlineLog).take Config.debugRing } := rfl
@[simp] theorem State.takeBudget_ppu : (s.takeBudget).ppu = s.ppu := rfl
@[simp] theorem State.takeBudget_irq : (s.takeBudget).irq = s.irq := rfl
@[simp] theorem State.takeBudget_dma : (s.takeBudget).dma = s.dma := rfl
@[simp] theorem State.takeBudget_audio : (s.takeBudget).audio = s.audio := rfl
@[simp] theorem State.takeBudget_wram : (s.takeBudget).wram = s.wram := rfl
@[simp] theorem State.takeBudget_rom : (s.takeBudget).rom = s.rom := rfl
@[simp] theorem State.takeBudget_env : (s.takeBudget).env = s.env := rfl

@[simp] theorem State.commit_params : (s.commit).params = s.params := rfl
@[simp] theorem State.commit_sched : (s.commit).sched = s.sched := rfl
@[simp] theorem State.commit_ppu :
    (s.commit).ppu = { s.ppu with active := s.ppu.pending, activePal := s.ppu.stagedPal, activeArgb := Vector.ofFn fun e => argb s.ppu.stagedPal e } := rfl
@[simp] theorem State.commit_irq : (s.commit).irq = s.irq := rfl
@[simp] theorem State.commit_dma : (s.commit).dma = s.dma := rfl
@[simp] theorem State.commit_audio : (s.commit).audio = s.audio := rfl
@[simp] theorem State.commit_wram : (s.commit).wram = s.wram := rfl
@[simp] theorem State.commit_rom : (s.commit).rom = s.rom := rfl
@[simp] theorem State.commit_env : (s.commit).env = s.env := rfl

@[simp] theorem State.vblankStart_params : (s.vblankStart).params = s.params := rfl
@[simp] theorem State.vblankStart_sched :
    (s.vblankStart).sched = { s.sched with vblankLatchLine := some Config.vblankLine } := rfl
@[simp] theorem State.vblankStart_ppu :
    (s.vblankStart).ppu = { s.ppu with vblank := true, sprOvfLatch := false } := rfl
@[simp] theorem State.vblankStart_irq :
    (s.vblankStart).irq = { s.irq with pending := s.irq.pending ||| irqVblank } := rfl
@[simp] theorem State.vblankStart_dma : (s.vblankStart).dma = s.dma := rfl
@[simp] theorem State.vblankStart_audio : (s.vblankStart).audio = s.audio := rfl
@[simp] theorem State.vblankStart_wram : (s.vblankStart).wram = s.wram := rfl
@[simp] theorem State.vblankStart_rom : (s.vblankStart).rom = s.rom := rfl
@[simp] theorem State.vblankStart_env : (s.vblankStart).env = s.env := rfl

@[simp] theorem State.charge_params (c e : Nat) : (s.charge c e).params = s.params := rfl
@[simp] theorem State.charge_sched (c e : Nat) :
    (s.charge c e).sched = { s.sched with cpuCycleDebt := s.sched.cpuCycleDebt + (e - c), totalTstatesExecuted := s.sched.totalTstatesExecuted + e } := rfl
@[simp] theorem State.charge_ppu (c e : Nat) : (s.charge c e).ppu = s.ppu := rfl
@[simp] theorem State.charge_irq (c e : Nat) : (s.charge c e).irq = s.irq := rfl
@[simp] theorem State.charge_dma (c e : Nat) : (s.charge c e).dma = s.dma := rfl
@[simp] theorem State.charge_audio (c e : Nat) : (s.charge c e).audio = s.audio := rfl
@[simp] theorem State.charge_wram (c e : Nat) : (s.charge c e).wram = s.wram := rfl
@[simp] theorem State.charge_rom (c e : Nat) : (s.charge c e).rom = s.rom := rfl
@[simp] theorem State.charge_env (c e : Nat) : (s.charge c e).env = s.env := rfl

@[simp] theorem State.popFrames_params (n : Nat) : (s.popFrames n).params = s.params := rfl
@[simp] theorem State.popFrames_sched (n : Nat) : (s.popFrames n).sched = s.sched := rfl
@[simp] theorem State.popFrames_ppu (n : Nat) : (s.popFrames n).ppu = s.ppu := rfl
@[simp] theorem State.popFrames_irq (n : Nat) : (s.popFrames n).irq = s.irq := rfl
@[simp] theorem State.popFrames_dma (n : Nat) : (s.popFrames n).dma = s.dma := rfl
@[simp] theorem State.popFrames_audio (n : Nat) : (s.popFrames n).audio = s.audio.pop s.params.ringCap n := rfl
@[simp] theorem State.popFrames_wram (n : Nat) : (s.popFrames n).wram = s.wram := rfl
@[simp] theorem State.popFrames_rom (n : Nat) : (s.popFrames n).rom = s.rom := rfl
@[simp] theorem State.popFrames_env (n : Nat) :
    (s.popFrames n).env = { s.env with audioOut := s.audio.popBuffer s.params.ringCap n } := rfl

@[simp] theorem State.dropRequest_params : (s.dropRequest).params = s.params := rfl
@[simp] theorem State.dropRequest_sched : (s.dropRequest).sched = s.sched := rfl
@[simp] theorem State.dropRequest_ppu : (s.dropRequest).ppu = s.ppu := rfl
@[simp] theorem State.dropRequest_irq : (s.dropRequest).irq = s.irq := rfl
@[simp] theorem State.dropRequest_dma : (s.dropRequest).dma = s.dma := rfl
@[simp] theorem State.dropRequest_audio : (s.dropRequest).audio = s.audio := rfl
@[simp] theorem State.dropRequest_wram : (s.dropRequest).wram = s.wram := rfl
@[simp] theorem State.dropRequest_rom : (s.dropRequest).rom = s.rom := rfl
@[simp] theorem State.dropRequest_env : (s.dropRequest).env = { s.env with requests := s.env.requests.tail } := rfl

@[simp] theorem State.pushRequest_params (r : Request) : (s.pushRequest r).params = s.params := rfl
@[simp] theorem State.pushRequest_sched (r : Request) : (s.pushRequest r).sched = s.sched := rfl
@[simp] theorem State.pushRequest_ppu (r : Request) : (s.pushRequest r).ppu = s.ppu := rfl
@[simp] theorem State.pushRequest_irq (r : Request) : (s.pushRequest r).irq = s.irq := rfl
@[simp] theorem State.pushRequest_dma (r : Request) : (s.pushRequest r).dma = s.dma := rfl
@[simp] theorem State.pushRequest_audio (r : Request) : (s.pushRequest r).audio = s.audio := rfl
@[simp] theorem State.pushRequest_wram (r : Request) : (s.pushRequest r).wram = s.wram := rfl
@[simp] theorem State.pushRequest_rom (r : Request) : (s.pushRequest r).rom = s.rom := rfl
@[simp] theorem State.pushRequest_env (r : Request) :
    (s.pushRequest r).env = { s.env with requests := r :: s.env.requests } := rfl

@[simp] theorem State.resetBlock_params : (s.resetBlock).params = s.params := rfl
@[simp] theorem State.resetBlock_sched : (s.resetBlock).sched = Scheduler.reset := rfl
@[simp] theorem State.resetBlock_ppu : (s.resetBlock).ppu = { Ppu.reset with fb := s.ppu.fb } := rfl
@[simp] theorem State.resetBlock_irq : (s.resetBlock).irq = Irq.reset := rfl
@[simp] theorem State.resetBlock_dma : (s.resetBlock).dma = Dma.reset := rfl
@[simp] theorem State.resetBlock_audio :
    (s.resetBlock).audio = { s.audio with apuAccum := 0, ringOverflowFrames := 0 } := rfl
@[simp] theorem State.resetBlock_wram : (s.resetBlock).wram = [] := rfl
@[simp] theorem State.resetBlock_rom : (s.resetBlock).rom = s.rom := rfl
@[simp] theorem State.resetBlock_env : (s.resetBlock).env = s.env := rfl

/-! ## Selected registers -/

/-- A register just written reads as written; every other register reads as before. -/
@[simp] theorem PpuRegs.get_put (r : PpuRegs) (k j : PpuReg) (v : Byte) :
    (r.put k v).get j = if j = k then v else r.get j := by
  cases k <;> cases j <;> rfl

@[simp] theorem loByte_append (hi lo : Byte) : loByte (hi ++ lo) = lo := by
  apply BitVec.eq_of_getLsbD_eq
  intro i hi'
  have := BitVec.getLsbD_append (x := hi) (y := lo) (i := i)
  simp only [loByte, BitVec.getLsbD_extractLsb', hi', decide_true, Bool.true_and, Nat.zero_add]
  exact this.trans (by simp [hi'])

@[simp] theorem hiByte_append (hi lo : Byte) : hiByte (hi ++ lo) = hi := by
  apply BitVec.eq_of_getLsbD_eq
  intro i hi'
  have := BitVec.getLsbD_append (x := hi) (y := lo) (i := 8 + i)
  simp only [hiByte, BitVec.getLsbD_extractLsb', hi', decide_true, Bool.true_and]
  exact this.trans (by simp)

@[simp] theorem loByte_withLo (w : Half) (v : Byte) : loByte (withLo w v) = v := loByte_append _ _
@[simp] theorem hiByte_withLo (w : Half) (v : Byte) : hiByte (withLo w v) = hiByte w := hiByte_append _ _
@[simp] theorem hiByte_withHi (w : Half) (v : Byte) : hiByte (withHi w v) = v := hiByte_append _ _
@[simp] theorem loByte_withHi (w : Half) (v : Byte) : loByte (withHi w v) = loByte w := loByte_append _ _

/-- A DMA byte latch just written reads as written; every other latch reads as before (R90). -/
@[simp] theorem Dma.get_put (d : Dma) (k j : DmaReg) (v : Byte) :
    (d.put k v).get j = if j = k then v else d.get j := by
  cases k <;> cases j <;> simp [Dma.get, Dma.put]

end

end Sys2Proof.Machine
end

