-- ==== Sys2Proof/Laws/Ops.lean ====
section
/-! SUPPORT. What each shared operation can do, said once: the CPU's port and memory accesses, the moves of a DMA copy, a
rendered line, the audio loop. -/

namespace Sys2Proof.Machine

/-! ## Memory primitives -/

/-- A VRAM read after a VRAM write (R84, R85). -/
theorem State.vramRead_vramWrite (s : State) (a b : Nat) (v : Byte) :
    vramRead (s.vramWrite a v).ppu.vram b =
      if b % Config.vramSize = a % Config.vramSize then v else vramRead s.ppu.vram b := by
  simp [vramRead, Memory.read_write]

/-- A staged palette read after a palette write (R87, R88). -/
theorem State.palReadByte_palWriteByte (s : State) (a b v : Byte) :
    (s.palWriteByte a v).palReadByte b = if b = a then palMask a v else s.palReadByte b := by
  simp [State.palReadByte, Memory.read_write, BitVec.toNat_inj]

/-- A CPU memory write reads work RAM, ROM and open bus as R83 says. -/
theorem State.memRead_memWrite (s : State) (a b : Half) (v : Byte) :
    (s.memWrite a v).memRead b = if b = a ∧ 0xC000 ≤ a.toNat then v else s.memRead b := by
  unfold State.memRead
  simp only [State.memWrite_rom, State.memWrite_wram]
  by_cases ha : 0xC000 ≤ a.toNat
  · simp only [ha, if_true, and_true]
    by_cases hb : b = a
    · subst hb
      simp [show ¬ b.toNat ≤ 0x7FFF by omega, show ¬ b.toNat ≤ 0xBFFF by omega]
    · have hne : b.toNat ≠ a.toNat := fun h => hb (BitVec.eq_of_toNat_eq h)
      simp only [hb, if_false]
      split
      · rfl
      · split
        · rfl
        · rw [Memory.read_write_other]
          omega
  · simp [ha]

/-! ## The CPU's accesses -/

theorem State.CpuFrame.refl (s : State) : s.CpuFrame s := by constructor <;> rfl

theorem State.CpuFrame.trans {s t u : State} (h : s.CpuFrame t) (k : t.CpuFrame u) : s.CpuFrame u := by
  constructor
  · exact k.params.trans h.params
  · exact k.sched.trans h.sched
  · exact k.audio.trans h.audio
  · exact k.rom.trans h.rom
  · exact k.active.trans h.active
  · exact k.activePal.trans h.activePal
  · exact k.activeArgb.trans h.activeArgb
  · exact k.vram.trans h.vram
  · exact k.vblank.trans h.vblank
  · exact k.sprOvfLatch.trans h.sprOvfLatch
  · exact k.fb.trans h.fb
  · exact k.queue.trans h.queue
  · exact k.lastTriggerWasQueued.trans h.lastTriggerWasQueued
  · exact k.lastIllegalStart.trans h.lastIllegalStart
  · exact k.requests.trans h.requests
  · exact k.popTape.trans h.popTape
  · exact k.popDraws.trans h.popDraws
  · exact k.apuFrames.trans h.apuFrames
  · exact k.audioOut.trans h.audioOut
  · exact k.hostButtons.trans h.hostButtons

/-- A DMA byte latch written leaves the slot, the control byte and the debug flags. -/
@[simp] theorem Dma.put_queue (d : Dma) (k : DmaReg) (v : Byte) : (d.put k v).queue = d.queue := by cases k <;> rfl
@[simp] theorem Dma.put_ctrl (d : Dma) (k : DmaReg) (v : Byte) : (d.put k v).ctrl = d.ctrl := by cases k <;> rfl
@[simp] theorem Dma.put_lastTriggerWasQueued (d : Dma) (k : DmaReg) (v : Byte) :
    (d.put k v).lastTriggerWasQueued = d.lastTriggerWasQueued := by cases k <;> rfl
@[simp] theorem Dma.put_lastIllegalStart (d : Dma) (k : DmaReg) (v : Byte) :
    (d.put k v).lastIllegalStart = d.lastIllegalStart := by cases k <;> rfl

/-- A port write is inside what the CPU can change. -/
theorem State.ioWrite_frame (s : State) (p v : Byte) : s.CpuFrame (s.ioWrite p v) := by
  unfold State.ioWrite
  split
  all_goals first
    | (split <;> constructor <;> simp)
    | (constructor <;> simp)

/-- What a port write leaves of the agents' interface: it can only grow the APU's history (R194). -/
theorem State.ioWrite_env (s : State) (p v : Byte) :
    (s.ioWrite p v).env = s.env ∨
      (s.ioWrite p v).env = { s.env with apuWrites := s.env.apuWrites ++ [⟨s.env.apuFrames, p, v⟩] } := by
  unfold State.ioWrite
  split
  all_goals first
    | (split <;> simp)
    | simp

/-- A port read is inside what the CPU can change. -/
theorem State.ioReadEffect_frame (s : State) (p : Byte) : s.CpuFrame (s.ioReadEffect p) := by
  unfold State.ioReadEffect
  split
  · constructor <;> simp
  · split <;> constructor <;> simp

theorem State.see_frame (s : State) (x : CpuSeen) : s.CpuFrame (s.see x) := by constructor <;> simp

theorem State.memWrite_frame (s : State) (a : Half) (v : Byte) : s.CpuFrame (s.memWrite a v) := by
  constructor <;> simp

/-- Every CPU action is inside what the CPU can change. -/
theorem State.cpuAction_frame (s : State) (a : CpuAction) : s.CpuFrame (s.cpuAction a) := by
  cases a with
  | input addr => exact (s.ioReadEffect_frame _).trans (State.see_frame _ _)
  | output addr v => exact s.ioWrite_frame _ _
  | load addr => exact s.see_frame _
  | store addr v => exact s.memWrite_frame _ _
  | sampleInt => exact s.see_frame _

/-! ## A DMA copy -/

/-- A move of a copy writes VRAM, or the staged palette, and nothing else (R223). -/
theorem State.dmaMove_cases (s : State) (src dst : Half) (pal : Bool) (i : Nat) :
    (pal = true ∧ s.dmaMove src dst pal i = s.palWriteByte (dmaPalAddr dst i) (s.dmaSourceByte src i)) ∨
      (pal = false ∧ s.dmaMove src dst pal i = s.vramWrite (dmaVramAddr dst i) (s.dmaSourceByte src i)) := by
  cases pal <;> simp [State.dmaMove]

/-- A copy to VRAM changes VRAM only. -/
theorem State.dmaCopy_vram (s : State) (src dst : Half) (k : Nat) :
    s.dmaCopy src dst false k = { s with ppu.vram := (s.dmaCopy src dst false k).ppu.vram } := by
  induction k with
  | zero => rfl
  | succ k ih => rw [State.dmaCopy, ih]; rfl

/-- A copy to the palette changes the staged palette only. -/
theorem State.dmaCopy_palette (s : State) (src dst : Half) (k : Nat) :
    s.dmaCopy src dst true k = { s with ppu.stagedPal := (s.dmaCopy src dst true k).ppu.stagedPal } := by
  induction k with
  | zero => rfl
  | succ k ih => rw [State.dmaCopy, ih]; rfl

/-- The bytes a copy reads are those before it: no copy writes CPU memory (R103, R223). -/
theorem State.dmaCopy_source (s : State) (src dst : Half) (pal : Bool) (k : Nat) (a : Half) :
    (s.dmaCopy src dst pal k).memRead a = s.memRead a := by
  cases pal
  · rw [State.dmaCopy_vram]; rfl
  · rw [State.dmaCopy_palette]; rfl

/-! ## A rendered line -/

/-- A rendered line writes its own line of the framebuffer (R300). -/
theorem State.renderScanline_fb (s : State) (n : Fin 192) :
    (s.renderScanline n).ppu.fb =
      s.ppu.fb.set n (if displayEnabled s.ppu.active then renderedLine s.ppu n else blankLine s.ppu) := by
  unfold State.renderScanline
  split <;> simp [State.latchOverflow_ppu] <;> split <;> simp_all

/-- Rendering writes nothing but the PPU and, where the overflow interrupt is configured, the IRQ controller (R300). -/
theorem State.renderScanline_rest (s : State) (n : Fin 192) :
    (s.renderScanline n).params = s.params ∧ (s.renderScanline n).sched = s.sched ∧
      (s.renderScanline n).dma = s.dma ∧ (s.renderScanline n).audio = s.audio ∧
      (s.renderScanline n).wram = s.wram ∧ (s.renderScanline n).rom = s.rom ∧
      (s.renderScanline n).env = s.env := by
  unfold State.renderScanline
  split <;> simp

/-! ## The audio loop -/

/-- The loop of R342 counts the quotient and leaves the remainder, given enough fuel. -/
theorem scheduleFrames_eq {c : Nat} (hc : 0 < c) :
    ∀ fuel acc, acc ≤ fuel → scheduleFrames c fuel acc = (acc / c, acc % c) := by
  intro fuel
  induction fuel with
  | zero =>
    intro acc h
    have : acc = 0 := by omega
    subst this
    simp [scheduleFrames]
  | succ fuel ih =>
    intro acc h
    unfold scheduleFrames
    split
    · rename_i hle
      rw [ih (acc - c) (by omega)]
      simp only [Prod.mk.injEq]
      constructor
      · rw [Nat.div_eq acc c]
        simp [hc, hle]
      · rw [Nat.mod_eq acc c]
        simp [hc, hle]
    · rename_i hlt
      have hlt : acc < c := by omega
      simp [Nat.div_eq_of_lt hlt, Nat.mod_eq_of_lt hlt]

end Sys2Proof.Machine
end

