-- ==== Sys2Proof/Laws/Schedule.lean ====
section
/-! SUPPORT. What each phase of a scanline step can change, and what the step leaves in the scheduler: the lemmas that
statements about a scanline cite instead of unfolding it. -/

namespace Sys2Proof.Machine

/-! ## The CPU's slice (R138) -/

/-- Any actions of the CPU stay inside what the CPU can change. -/
theorem State.cpuActions_frame (acts : List CpuAction) : ∀ s : State, s.CpuFrame (s.cpuActions acts) := by
  induction acts with
  | nil => exact State.CpuFrame.refl
  | cons a t ih => exact fun s => (s.cpuAction_frame a).trans (ih (s.cpuAction a))

/-- The two DMA debug flags, the debug ring and the latch-line record never reach what the CPU does (R376). -/
theorem State.nextSlice_ignores_debug (s : State) (queued illegal : Bool) (log : List ScanlineRecord) (line : Option Nat)
    (budget : Nat) :
    State.nextSlice
        { s with
          dma.lastTriggerWasQueued := queued
          dma.lastIllegalStart := illegal
          sched.scanlineLog := log
          sched.vblankLatchLine := line } budget =
      s.nextSlice budget := rfl

/-- Taking a slice changes the agents' interface only. -/
theorem State.takeSlice_frame (s : State) : s.CpuFrame s.takeSlice := by
  unfold State.takeSlice
  split <;> constructor <;> rfl

/-- A slice stays inside what the CPU can change. -/
theorem State.runSlice_frame (s : State) (budget : Nat) : s.CpuFrame (s.runSlice budget) := by
  unfold State.runSlice
  split
  · exact s.takeSlice_frame
  · exact s.takeSlice_frame.trans (State.cpuActions_frame _ _)

/-- A slice never comes short of its budget (R138). -/
theorem State.le_executedOf (s : State) (budget : Nat) : budget ≤ s.executedOf budget := by
  unfold State.executedOf
  split <;> omega

/-- A slice overshoots by less than `P_MAX_OVERSHOOT` (R138). -/
theorem State.executedOf_lt (s : State) (budget : Nat) (h : 1 ≤ s.params.maxOvershoot) :
    s.executedOf budget < budget + s.params.maxOvershoot := by
  unfold State.executedOf overshootOf
  split
  · omega
  · have := Nat.mod_lt (s.nextSlice budget).overshoot (show s.params.maxOvershoot > 0 by omega)
    omega

/-! ## The consumer's pops (R345) -/

/-- The accumulator of the timebase and the producer's counter never reach what the consumer pops (R57, R378). -/
theorem State.nextPops_ignores_timebase (s : State) (accum : BitVec 64) (overflows : Nat) :
    State.nextPops { s with audio.apuAccum := accum, audio.ringOverflowFrames := overflows } = s.nextPops := rfl

/-- Pops change the consumer's side of the ring, its counter and its buffer, and nothing else (R345). -/
theorem State.popAll_rest (ns : List Nat) : ∀ s : State,
    ns.foldl State.popFrames s =
      { s with
        audio.readPos := (ns.foldl State.popFrames s).audio.readPos
        audio.ringUnderruns := (ns.foldl State.popFrames s).audio.ringUnderruns
        env.audioOut := (ns.foldl State.popFrames s).env.audioOut } := by
  induction ns with
  | nil => exact fun s => rfl
  | cons n t ih =>
    intro s
    rw [List.foldl_cons, ih (s.popFrames n)]
    rfl

/-- What the consumer's pops leave as it was. -/
theorem State.consumerPops_rest (s : State) :
    s.consumerPops =
      { s with
        audio.readPos := s.consumerPops.audio.readPos
        audio.ringUnderruns := s.consumerPops.audio.ringUnderruns
        env.audioOut := s.consumerPops.env.audioOut
        env.popTape := s.takePops.env.popTape
        env.popDraws := s.takePops.env.popDraws } := by
  unfold State.consumerPops
  rw [State.popAll_rest]
  unfold State.takePops
  split <;> rfl

/-! ## The other phases -/

/-- The audio timebase changes the audio side and the count of generated frames only (R342). -/
theorem State.apuAdvance_rest (s : State) (cycles : Nat) :
    s.apuAdvance cycles =
      { s with audio := (s.apuAdvance cycles).audio, env.apuFrames := (s.apuAdvance cycles).env.apuFrames } := rfl

/-- The boundary changes the DMA engine, VRAM, the staged palette and the pending mask only (R224). -/
theorem State.dmaBoundary_rest (s : State) (n : Fin 262) (vblank : Bool) (frame : Nat) :
    s.dmaBoundary n vblank frame =
      { s with
        dma := (s.dmaBoundary n vblank frame).dma
        ppu.vram := (s.dmaBoundary n vblank frame).ppu.vram
        ppu.stagedPal := (s.dmaBoundary n vblank frame).ppu.stagedPal
        irq.pending := (s.dmaBoundary n vblank frame).irq.pending } := by
  have execute : ∀ (u : State) (src dst len : Half) (pal : Bool),
      u.dmaExecute src dst len pal =
        { u with
          ppu.vram := (u.dmaExecute src dst len pal).ppu.vram
          ppu.stagedPal := (u.dmaExecute src dst len pal).ppu.stagedPal
          irq.pending := (u.dmaExecute src dst len pal).irq.pending } := by
    intro u src dst len pal
    unfold State.dmaExecute State.raiseIf
    cases pal
    · rw [State.dmaCopy_vram]; split <;> rfl
    · rw [State.dmaCopy_palette]; split <;> rfl
  unfold State.dmaBoundary
  split
  · unfold State.dmaRunQueued; rw [execute]
  · split
    · rfl
    · unfold State.dmaRequest
      split
      · rfl
      · split
        · unfold State.dmaRunNow; rw [execute]; rfl
        · split <;> rfl

/-- A boundary with the VBlank flag down copies nothing (R226). -/
theorem State.dmaBoundary_false (s : State) (n : Fin 262) (frame : Nat) :
    (s.dmaBoundary n false frame).ppu = s.ppu ∧ (s.dmaBoundary n false frame).irq = s.irq := by
  unfold State.dmaBoundary
  rw [if_neg (by simp)]
  split
  · exact ⟨rfl, rfl⟩
  · unfold State.dmaRequest
    split
    · exact ⟨rfl, rfl⟩
    · rw [if_neg (by simp)]
      split <;> exact ⟨rfl, rfl⟩

/-- The hook changes the PPU's copies and flags, the IRQ controller and the latch-line record only (R133). -/
theorem State.onScanlineStart_rest (s : State) (n : Fin 262) :
    s.onScanlineStart n =
      { s with
        ppu := (s.onScanlineStart n).ppu
        irq := (s.onScanlineStart n).irq
        sched.vblankLatchLine := (s.onScanlineStart n).sched.vblankLatchLine } := by
  unfold State.onScanlineStart State.startVblankAt State.endVblankAt State.raiseIf
  split <;> split <;> split <;> rfl

/-! ## The whole step (R131) -/

/-- The scheduler after step 8 (R141). -/
theorem State.advanceLine_sched (s : State) :
    s.advanceLine.sched =
      { s.sched with
        currentScanline := if s.sched.currentScanline.val = 261 then 0 else s.sched.currentScanline + 1
        frameCounter :=
          if s.sched.currentScanline.val = 261 then s.sched.frameCounter + 1 else s.sched.frameCounter } := by
  unfold State.advanceLine
  by_cases h : s.sched.currentScanline.val = 261 <;> simp only [h, if_true, if_false]

/-- The T-states the CPU runs in this scanline step. -/
def State.lineExecuted (s : State) : Nat :=
  (s.takeBudget.onScanlineStart s.sched.currentScanline).executedOf s.lineBudget

/-- The scheduler after a scanline step (R131, R132, R139, R141). -/
theorem State.scanlineStep_sched (s : State) :
    s.scanlineStep.sched =
      { s.sched with
        cpuCycleAccumulator := s.accumulatorPlus - s.rawBudget
        cpuCycleDebt := s.sched.cpuCycleDebt - s.debtPaid + (s.lineExecuted - s.lineBudget)
        totalTstatesExecuted := s.sched.totalTstatesExecuted + s.lineExecuted
        scanlineLog := (s.lineRecord :: s.sched.scanlineLog).take Config.debugRing
        vblankLatchLine := (s.takeBudget.onScanlineStart s.sched.currentScanline).sched.vblankLatchLine
        currentScanline :=
          if s.sched.currentScanline.val = 261 then 0 else s.sched.currentScanline + 1
        frameCounter :=
          if s.sched.currentScanline.val = 261 then s.sched.frameCounter + 1 else s.sched.frameCounter } := by
  have render : ∀ u : State, (u.renderVisible s.sched.currentScanline).sched = u.sched := by
    intro u
    unfold State.renderVisible
    split
    · exact (u.renderScanline_rest _).2.1
    · rfl
  have boundary : ∀ u : State, (u.dmaPhase s.sched.currentScanline).sched = u.sched := by
    intro u
    rw [State.dmaPhase, State.dmaBoundary_rest]
  have pops : ∀ u : State, u.consumerPops.sched = u.sched := by
    intro u
    rw [State.consumerPops_rest]
  have audio : ∀ u : State, (u.apuAdvance s.lineBudget).sched = u.sched := by
    intro u
    rw [State.apuAdvance_rest]
  have hook : (s.takeBudget.onScanlineStart s.sched.currentScanline).sched =
      { s.takeBudget.sched with
        vblankLatchLine := (s.takeBudget.onScanlineStart s.sched.currentScanline).sched.vblankLatchLine } := by
    conv => lhs; rw [State.onScanlineStart_rest]
  have slice := ((s.takeBudget.onScanlineStart s.sched.currentScanline).runSlice_frame s.lineBudget).sched
  rw [State.scanlineStep, State.advanceLine_sched, audio, pops, boundary, render, State.recompute_sched,
    State.cpuPhase, State.charge_sched, slice, hook]
  simp only [State.takeBudget_sched, State.lineExecuted]
  by_cases h : s.sched.currentScanline.val = 261 <;> simp only [h, if_true, if_false]

end Sys2Proof.Machine
end

