-- ==== Sys2Proof/Laws/Invariants.lean ====
section
/-! SUPPORT. The invariants that spec/60_exceptions.md R362 asserts, each as a lemma about the operation that gives it: "A
model proves them; it does not check them". No definition of the model tests one at run time. -/

namespace Sys2Proof.Machine

/-! ## The timing drift bound (R142) -/

/-- A scanline step adds exactly `P_CPL` to the executed total, with the fraction kept and less the debt. -/
theorem State.scanlineStep_drift (s : State) :
    (s.scanlineStep.sched.totalTstatesExecuted : Rat) + s.scanlineStep.sched.cpuCycleAccumulator -
        s.scanlineStep.sched.cpuCycleDebt =
      s.sched.totalTstatesExecuted + s.sched.cpuCycleAccumulator - s.sched.cpuCycleDebt + s.params.cpl := by
  have ran : s.lineBudget ≤ s.lineExecuted := State.le_executedOf _ _
  have paid : s.debtPaid ≤ s.sched.cpuCycleDebt := Nat.min_le_left _ _
  have raw : s.lineBudget + s.debtPaid = s.rawBudget := Nat.sub_add_cancel (Nat.min_le_right _ _)
  rw [State.scanlineStep_sched]
  simp only [State.accumulatorPlus, Nat.cast_add, Nat.cast_sub ran, Nat.cast_sub paid, ← raw]
  ring

/-! ## `int_line` after each controller operation (R169) -/

theorem State.recompute_settled (s : State) : s.recompute.irq.Settled := rfl

theorem State.irqAck_settled (s : State) (mask : Byte) : (s.irqAck mask).irq.Settled := rfl

theorem State.irqWriteEnable_settled (s : State) (mask : Byte) : (s.irqWriteEnable mask).irq.Settled := rfl

theorem State.onScanlineStart_settled (s : State) (n : Fin 262) : (s.onScanlineStart n).irq.Settled := rfl

/-! ## Staged and active palette after each commit (R134) -/

/-- After a commit both register copies and both palettes agree, and nothing staged has changed. -/
theorem State.commit_agrees (s : State) :
    s.commit.ppu.activePal = s.commit.ppu.stagedPal ∧ s.commit.ppu.active = s.commit.ppu.pending ∧
      s.commit.ppu.stagedPal = s.ppu.stagedPal ∧ s.commit.ppu.pending = s.ppu.pending :=
  ⟨rfl, rfl, rfl, rfl⟩

/-- The hook of every line commits. -/
theorem State.onScanlineStart_agrees (s : State) (n : Fin 262) :
    (s.onScanlineStart n).ppu.activePal = (s.onScanlineStart n).ppu.stagedPal ∧
      (s.onScanlineStart n).ppu.active = (s.onScanlineStart n).ppu.pending ∧
      (s.onScanlineStart n).ppu.stagedPal = s.ppu.stagedPal ∧ (s.onScanlineStart n).ppu.pending = s.ppu.pending := by
  unfold State.onScanlineStart State.startVblankAt State.endVblankAt State.raiseIf
  split <;> split <;> split <;> exact ⟨rfl, rfl, rfl, rfl⟩

/-! ## DMA only in VBlank (R226): `State.dmaBoundary_false` (Laws/Schedule.lean), and here its two destinations -/

/-- A boundary that changed VRAM or the staged palette found the VBlank flag up. -/
theorem State.vblank_of_dma_changed (s : State) (n : Fin 262) (vblank : Bool) (frame : Nat)
    (h : (s.dmaBoundary n vblank frame).ppu.vram ≠ s.ppu.vram ∨
      (s.dmaBoundary n vblank frame).ppu.stagedPal ≠ s.ppu.stagedPal) : vblank = true := by
  cases vblank with
  | true => rfl
  | false =>
    rw [(s.dmaBoundary_false n frame).1] at h
    exact absurd h (by simp)

/-! ## The VBlank flag (R143) and the overflow latch (R315) -/

/-- What the hook leaves of the two flags (R135, R136). -/
theorem State.onScanlineStart_flags (s : State) (n : Fin 262) :
    (s.onScanlineStart n).ppu.vblank = (if n.val = 192 then true else if n.val = 0 then false else s.ppu.vblank) ∧
      (s.onScanlineStart n).ppu.sprOvfLatch = (if n.val = 192 then false else s.ppu.sprOvfLatch) := by
  unfold State.onScanlineStart State.startVblankAt State.endVblankAt State.raiseIf
  by_cases h : n.val = 192
  · rw [if_pos h, if_neg (show ¬ n.val = 0 by omega), if_pos h, if_pos h]
    split <;> exact ⟨rfl, rfl⟩
  · rw [if_neg h, if_neg h, if_neg h]
    split <;> split <;> exact ⟨rfl, rfl⟩

/-- Finding a 17th candidate sets the latch; nothing else of the flags changes (R304). -/
theorem State.latchOverflow_flags (s : State) (overflow : Bool) :
    (s.latchOverflow overflow).ppu.sprOvfLatch = (s.ppu.sprOvfLatch || overflow) ∧
      (s.latchOverflow overflow).ppu.vblank = s.ppu.vblank := by
  unfold State.latchOverflow State.raiseIf
  cases overflow
  · exact ⟨(Bool.or_false _).symm, rfl⟩
  · rw [Bool.or_true, if_pos rfl]
    split <;> exact ⟨rfl, rfl⟩

/-- Rendering keeps a set latch and the VBlank flag (R315). -/
theorem State.renderScanline_flags (s : State) (n : Fin 192) :
    (s.ppu.sprOvfLatch = true → (s.renderScanline n).ppu.sprOvfLatch = true) ∧
      (s.renderScanline n).ppu.vblank = s.ppu.vblank := by
  have latched : ∀ b, s.ppu.sprOvfLatch = true → (s.latchOverflow b).ppu.sprOvfLatch = true := fun b h => by
    rw [(s.latchOverflow_flags b).1, h, Bool.true_or]
  unfold State.renderScanline
  split <;> exact ⟨latched _, (s.latchOverflow_flags _).2⟩

/-- A copy never touches the two flags (R223). -/
theorem State.dmaCopy_flags (s : State) (src dst : Half) (pal : Bool) (k : Nat) :
    (s.dmaCopy src dst pal k).ppu.vblank = s.ppu.vblank ∧
      (s.dmaCopy src dst pal k).ppu.sprOvfLatch = s.ppu.sprOvfLatch := by
  induction k with
  | zero => exact ⟨rfl, rfl⟩
  | succ k ih =>
    rw [State.dmaCopy]
    cases pal <;> exact ih

/-- No boundary touches the two flags (R224). -/
theorem State.dmaBoundary_flags (s : State) (n : Fin 262) (vblank : Bool) (frame : Nat) :
    (s.dmaBoundary n vblank frame).ppu.vblank = s.ppu.vblank ∧
      (s.dmaBoundary n vblank frame).ppu.sprOvfLatch = s.ppu.sprOvfLatch := by
  have execute : ∀ (u : State) (src dst len : Half) (pal : Bool),
      (u.dmaExecute src dst len pal).ppu.vblank = u.ppu.vblank ∧
        (u.dmaExecute src dst len pal).ppu.sprOvfLatch = u.ppu.sprOvfLatch := fun u src dst len pal => by
    unfold State.dmaExecute State.raiseIf
    split <;> exact u.dmaCopy_flags src dst pal len.toNat
  unfold State.dmaBoundary
  split
  · exact execute s _ _ _ _
  · split
    · exact ⟨rfl, rfl⟩
    · unfold State.dmaRequest
      split
      · exact ⟨rfl, rfl⟩
      · split
        · exact execute s.dmaConsumeStart _ _ _ _
        · split <;> exact ⟨rfl, rfl⟩

/-- The VBlank flag after a scanline step is that which its hook left (R143); a latch its hook left set is set (R315). -/
theorem State.scanlineStep_flags (s : State) :
    s.scanlineStep.ppu.vblank = (s.takeBudget.onScanlineStart s.sched.currentScanline).ppu.vblank ∧
      ((s.takeBudget.onScanlineStart s.sched.currentScanline).ppu.sprOvfLatch = true →
        s.scanlineStep.ppu.sprOvfLatch = true) := by
  have tail : ∀ u : State, ((u.consumerPops.apuAdvance s.lineBudget).advanceLine).ppu = u.ppu := by
    intro u
    have advance : ∀ v : State, v.advanceLine.ppu = v.ppu := fun v => by unfold State.advanceLine; split <;> rfl
    rw [advance, State.apuAdvance_rest, State.consumerPops_rest]
  have render : ∀ u : State,
      (u.ppu.sprOvfLatch = true → (u.renderVisible s.sched.currentScanline).ppu.sprOvfLatch = true) ∧
        (u.renderVisible s.sched.currentScanline).ppu.vblank = u.ppu.vblank := by
    intro u
    unfold State.renderVisible
    split
    · exact u.renderScanline_flags _
    · exact ⟨id, rfl⟩
  have slice := (s.takeBudget.onScanlineStart s.sched.currentScanline).runSlice_frame s.lineBudget
  unfold State.scanlineStep State.dmaPhase
  rw [tail, (State.dmaBoundary_flags _ _ _ _).1, (State.dmaBoundary_flags _ _ _ _).2, (render _).2]
  exact ⟨slice.vblank, fun h => (render _).1 (slice.sprOvfLatch.trans h)⟩

/-- The VBlank flag law of one step: it keeps the flag's phase, and leaves it set exactly from line 192 on (R143). -/
theorem State.scanlineStep_vblank (s : State) :
    s.scanlineStep.ppu.vblank =
      (if s.sched.currentScanline.val = 192 then true
       else if s.sched.currentScanline.val = 0 then false else s.ppu.vblank) := by
  rw [s.scanlineStep_flags.1, (State.onScanlineStart_flags _ _).1]
  rfl

end Sys2Proof.Machine
end

