-- ==== Sys2Proof/Laws/PerInstr.lean ====
section
/-! SUPPORT. The encoding of every operation, instruction by instruction: it matches the `match` and `mask` of its own row
of spec/opcode_table.json (spec/30_encoding.md R110, R114). -/

namespace Sys2Proof.Laws

/-- A row of the opcode table: its `match` and `mask` over a packed transaction, or its hook identifier. -/
inductive TableRow where
  | io (pattern mask : IoWord)
  | hook (op : Byte)
  deriving DecidableEq, Repr

/-- The row of every operation, as spec/opcode_table.json has it. -/
def tableRow : Instr → TableRow
  | .inVdpStatus => .io 0x01000 0x1FF00
  | .outVdpStatus _ => .io 0x11000 0x1FF00
  | .inVdpCtrl => .io 0x01100 0x1FF00
  | .outVdpCtrl _ => .io 0x11100 0x1FF00
  | .inScrollAX => .io 0x01200 0x1FF00
  | .outScrollAX _ => .io 0x11200 0x1FF00
  | .inScrollAY => .io 0x01300 0x1FF00
  | .outScrollAY _ => .io 0x11300 0x1FF00
  | .inScrollBX => .io 0x01400 0x1FF00
  | .outScrollBX _ => .io 0x11400 0x1FF00
  | .inScrollBY => .io 0x01500 0x1FF00
  | .outScrollBY _ => .io 0x11500 0x1FF00
  | .inTmapABase => .io 0x01600 0x1FF00
  | .outTmapABase _ => .io 0x11600 0x1FF00
  | .inTmapBBase => .io 0x01700 0x1FF00
  | .outTmapBBase _ => .io 0x11700 0x1FF00
  | .inPatBase => .io 0x01800 0x1FF00
  | .outPatBase _ => .io 0x11800 0x1FF00
  | .inPalAddr => .io 0x01E00 0x1FF00
  | .outPalAddr _ => .io 0x11E00 0x1FF00
  | .inPalData => .io 0x01F00 0x1FF00
  | .outPalData _ => .io 0x11F00 0x1FF00
  | .inSprCtrl => .io 0x02000 0x1FF00
  | .outSprCtrl _ => .io 0x12000 0x1FF00
  | .inSatBase => .io 0x02100 0x1FF00
  | .outSatBase _ => .io 0x12100 0x1FF00
  | .inSprStatus => .io 0x02200 0x1FF00
  | .outSprStatus _ => .io 0x12200 0x1FF00
  | .inDmaSrcLo => .io 0x03000 0x1FF00
  | .outDmaSrcLo _ => .io 0x13000 0x1FF00
  | .inDmaSrcHi => .io 0x03100 0x1FF00
  | .outDmaSrcHi _ => .io 0x13100 0x1FF00
  | .inDmaDstLo => .io 0x03200 0x1FF00
  | .outDmaDstLo _ => .io 0x13200 0x1FF00
  | .inDmaDstHi => .io 0x03300 0x1FF00
  | .outDmaDstHi _ => .io 0x13300 0x1FF00
  | .inDmaLenLo => .io 0x03400 0x1FF00
  | .outDmaLenLo _ => .io 0x13400 0x1FF00
  | .inDmaLenHi => .io 0x03500 0x1FF00
  | .outDmaLenHi _ => .io 0x13500 0x1FF00
  | .inDmaCtrl => .io 0x03600 0x1FF00
  | .outDmaCtrl _ => .io 0x13600 0x1FF00
  | .inApu _ => .io 0x06000 0x1E000
  | .outApu _ _ => .io 0x16000 0x1E000
  | .inUnmapped7e => .io 0x07E00 0x1FF00
  | .outUnmapped7e _ => .io 0x17E00 0x1FF00
  | .inUnmapped7f => .io 0x07F00 0x1FF00
  | .outUnmapped7f _ => .io 0x17F00 0x1FF00
  | .inIrqStatus => .io 0x08000 0x1FF00
  | .outIrqStatus _ => .io 0x18000 0x1FF00
  | .inIrqEnable => .io 0x08100 0x1FF00
  | .outIrqEnable _ => .io 0x18100 0x1FF00
  | .inIrqAck => .io 0x08200 0x1FF00
  | .outIrqAck _ => .io 0x18200 0x1FF00
  | .inUnmapped _ => .io 0x00000 0x10000
  | .outUnmapped _ _ => .io 0x10000 0x10000
  | .powerOn => .hook 0x01
  | .reset => .hook 0x02
  | .loadRom _ => .hook 0x03
  | .stepFrame => .hook 0x04
  | .scanlineStep => .hook 0x05
  | .onScanlineStart _ => .hook 0x06
  | .renderScanline _ => .hook 0x07
  | .dmaBoundary _ _ _ => .hook 0x08
  | .apuAdvance _ => .hook 0x09
  | .irqRaise _ => .hook 0x0A
  | .irqAck _ => .hook 0x0B
  | .irqWriteEnable _ => .hook 0x0C
  | .irqReadStatus => .hook 0x0D
  | .irqReadEnable => .hook 0x0E
  | .irqPreCpuUpdate => .hook 0x0F
  | .irqPostCpuUpdate => .hook 0x10
  | .irqIntLineAsserted => .hook 0x11
  | .cpuStep _ => .hook 0x12
  | .ringPush _ => .hook 0x13
  | .popAudioFrames _ => .hook 0x14
  | .framebufferRead => .hook 0x15
  | .dmaExecute _ _ _ _ => .hook 0x16
  | .setHostButtons _ => .hook 0x17

/-- A request matches a row: a transaction under the row's mask, a hook by its first byte. -/
def TableRow.Matches : TableRow → Request → Prop
  | .io pattern mask, .io w => w &&& mask = pattern
  | .hook op, r => ∃ args, r = .hook (op :: args)
  | .io _ _, .hook _ => False

/-- The encoding of a well-formed operation matches its row. -/
def OpcodeRow.Statement (i : Instr) : Prop := i.wellFormed = true → (tableRow i).Matches (encode i)

/-- A mask without data bits leaves the data byte of a transaction out. -/
theorem ioRow_masked (d : Bool) (p v : Byte) (mask : IoWord) (k : BitVec 9) (pattern : IoWord)
    (h : ((BitVec.ofBool d ++ p : BitVec 9) &&& k) ++ (0 : Byte) = pattern) (hm : mask = k ++ (0 : Byte)) :
    ioWord d p v &&& mask = pattern := by
  subst h hm
  have := BitVec.and_append (x₁ := BitVec.ofBool d ++ p) (y₁ := v) (x₂ := k) (y₂ := (0 : Byte))
  refine this.trans ?_
  simp

theorem OpcodeRow.inVdpStatus : OpcodeRow.Statement .inVdpStatus :=
  fun _ => ioRow_masked _ _ _ _ 0x1FF _ (by decide) (by decide)
theorem OpcodeRow.outVdpStatus (v : Byte) : OpcodeRow.Statement (.outVdpStatus v) :=
  fun _ => ioRow_masked _ _ _ _ 0x1FF _ (by decide) (by decide)
theorem OpcodeRow.inVdpCtrl : OpcodeRow.Statement .inVdpCtrl :=
  fun _ => ioRow_masked _ _ _ _ 0x1FF _ (by decide) (by decide)
theorem OpcodeRow.outVdpCtrl (v : Byte) : OpcodeRow.Statement (.outVdpCtrl v) :=
  fun _ => ioRow_masked _ _ _ _ 0x1FF _ (by decide) (by decide)
theorem OpcodeRow.inScrollAX : OpcodeRow.Statement .inScrollAX :=
  fun _ => ioRow_masked _ _ _ _ 0x1FF _ (by decide) (by decide)
theorem OpcodeRow.outScrollAX (v : Byte) : OpcodeRow.Statement (.outScrollAX v) :=
  fun _ => ioRow_masked _ _ _ _ 0x1FF _ (by decide) (by decide)
theorem OpcodeRow.inScrollAY : OpcodeRow.Statement .inScrollAY :=
  fun _ => ioRow_masked _ _ _ _ 0x1FF _ (by decide) (by decide)
theorem OpcodeRow.outScrollAY (v : Byte) : OpcodeRow.Statement (.outScrollAY v) :=
  fun _ => ioRow_masked _ _ _ _ 0x1FF _ (by decide) (by decide)
theorem OpcodeRow.inScrollBX : OpcodeRow.Statement .inScrollBX :=
  fun _ => ioRow_masked _ _ _ _ 0x1FF _ (by decide) (by decide)
theorem OpcodeRow.outScrollBX (v : Byte) : OpcodeRow.Statement (.outScrollBX v) :=
  fun _ => ioRow_masked _ _ _ _ 0x1FF _ (by decide) (by decide)
theorem OpcodeRow.inScrollBY : OpcodeRow.Statement .inScrollBY :=
  fun _ => ioRow_masked _ _ _ _ 0x1FF _ (by decide) (by decide)
theorem OpcodeRow.outScrollBY (v : Byte) : OpcodeRow.Statement (.outScrollBY v) :=
  fun _ => ioRow_masked _ _ _ _ 0x1FF _ (by decide) (by decide)
theorem OpcodeRow.inTmapABase : OpcodeRow.Statement .inTmapABase :=
  fun _ => ioRow_masked _ _ _ _ 0x1FF _ (by decide) (by decide)
theorem OpcodeRow.outTmapABase (v : Byte) : OpcodeRow.Statement (.outTmapABase v) :=
  fun _ => ioRow_masked _ _ _ _ 0x1FF _ (by decide) (by decide)
theorem OpcodeRow.inTmapBBase : OpcodeRow.Statement .inTmapBBase :=
  fun _ => ioRow_masked _ _ _ _ 0x1FF _ (by decide) (by decide)
theorem OpcodeRow.outTmapBBase (v : Byte) : OpcodeRow.Statement (.outTmapBBase v) :=
  fun _ => ioRow_masked _ _ _ _ 0x1FF _ (by decide) (by decide)
theorem OpcodeRow.inPatBase : OpcodeRow.Statement .inPatBase :=
  fun _ => ioRow_masked _ _ _ _ 0x1FF _ (by decide) (by decide)
theorem OpcodeRow.outPatBase (v : Byte) : OpcodeRow.Statement (.outPatBase v) :=
  fun _ => ioRow_masked _ _ _ _ 0x1FF _ (by decide) (by decide)
theorem OpcodeRow.inPalAddr : OpcodeRow.Statement .inPalAddr :=
  fun _ => ioRow_masked _ _ _ _ 0x1FF _ (by decide) (by decide)
theorem OpcodeRow.outPalAddr (v : Byte) : OpcodeRow.Statement (.outPalAddr v) :=
  fun _ => ioRow_masked _ _ _ _ 0x1FF _ (by decide) (by decide)
theorem OpcodeRow.inPalData : OpcodeRow.Statement .inPalData :=
  fun _ => ioRow_masked _ _ _ _ 0x1FF _ (by decide) (by decide)
theorem OpcodeRow.outPalData (v : Byte) : OpcodeRow.Statement (.outPalData v) :=
  fun _ => ioRow_masked _ _ _ _ 0x1FF _ (by decide) (by decide)
theorem OpcodeRow.inSprCtrl : OpcodeRow.Statement .inSprCtrl :=
  fun _ => ioRow_masked _ _ _ _ 0x1FF _ (by decide) (by decide)
theorem OpcodeRow.outSprCtrl (v : Byte) : OpcodeRow.Statement (.outSprCtrl v) :=
  fun _ => ioRow_masked _ _ _ _ 0x1FF _ (by decide) (by decide)
theorem OpcodeRow.inSatBase : OpcodeRow.Statement .inSatBase :=
  fun _ => ioRow_masked _ _ _ _ 0x1FF _ (by decide) (by decide)
theorem OpcodeRow.outSatBase (v : Byte) : OpcodeRow.Statement (.outSatBase v) :=
  fun _ => ioRow_masked _ _ _ _ 0x1FF _ (by decide) (by decide)
theorem OpcodeRow.inSprStatus : OpcodeRow.Statement .inSprStatus :=
  fun _ => ioRow_masked _ _ _ _ 0x1FF _ (by decide) (by decide)
theorem OpcodeRow.outSprStatus (v : Byte) : OpcodeRow.Statement (.outSprStatus v) :=
  fun _ => ioRow_masked _ _ _ _ 0x1FF _ (by decide) (by decide)
theorem OpcodeRow.inDmaSrcLo : OpcodeRow.Statement .inDmaSrcLo :=
  fun _ => ioRow_masked _ _ _ _ 0x1FF _ (by decide) (by decide)
theorem OpcodeRow.outDmaSrcLo (v : Byte) : OpcodeRow.Statement (.outDmaSrcLo v) :=
  fun _ => ioRow_masked _ _ _ _ 0x1FF _ (by decide) (by decide)
theorem OpcodeRow.inDmaSrcHi : OpcodeRow.Statement .inDmaSrcHi :=
  fun _ => ioRow_masked _ _ _ _ 0x1FF _ (by decide) (by decide)
theorem OpcodeRow.outDmaSrcHi (v : Byte) : OpcodeRow.Statement (.outDmaSrcHi v) :=
  fun _ => ioRow_masked _ _ _ _ 0x1FF _ (by decide) (by decide)
theorem OpcodeRow.inDmaDstLo : OpcodeRow.Statement .inDmaDstLo :=
  fun _ => ioRow_masked _ _ _ _ 0x1FF _ (by decide) (by decide)
theorem OpcodeRow.outDmaDstLo (v : Byte) : OpcodeRow.Statement (.outDmaDstLo v) :=
  fun _ => ioRow_masked _ _ _ _ 0x1FF _ (by decide) (by decide)
theorem OpcodeRow.inDmaDstHi : OpcodeRow.Statement .inDmaDstHi :=
  fun _ => ioRow_masked _ _ _ _ 0x1FF _ (by decide) (by decide)
theorem OpcodeRow.outDmaDstHi (v : Byte) : OpcodeRow.Statement (.outDmaDstHi v) :=
  fun _ => ioRow_masked _ _ _ _ 0x1FF _ (by decide) (by decide)
theorem OpcodeRow.inDmaLenLo : OpcodeRow.Statement .inDmaLenLo :=
  fun _ => ioRow_masked _ _ _ _ 0x1FF _ (by decide) (by decide)
theorem OpcodeRow.outDmaLenLo (v : Byte) : OpcodeRow.Statement (.outDmaLenLo v) :=
  fun _ => ioRow_masked _ _ _ _ 0x1FF _ (by decide) (by decide)
theorem OpcodeRow.inDmaLenHi : OpcodeRow.Statement .inDmaLenHi :=
  fun _ => ioRow_masked _ _ _ _ 0x1FF _ (by decide) (by decide)
theorem OpcodeRow.outDmaLenHi (v : Byte) : OpcodeRow.Statement (.outDmaLenHi v) :=
  fun _ => ioRow_masked _ _ _ _ 0x1FF _ (by decide) (by decide)
theorem OpcodeRow.inDmaCtrl : OpcodeRow.Statement .inDmaCtrl :=
  fun _ => ioRow_masked _ _ _ _ 0x1FF _ (by decide) (by decide)
theorem OpcodeRow.outDmaCtrl (v : Byte) : OpcodeRow.Statement (.outDmaCtrl v) :=
  fun _ => ioRow_masked _ _ _ _ 0x1FF _ (by decide) (by decide)
theorem OpcodeRow.inApu (port : Byte) : OpcodeRow.Statement (.inApu port) :=
  fun h => ioRow_masked _ _ _ _ 0x1E0 _ (by replace h : apuPort port = true := h; revert port; decide) (by decide)
theorem OpcodeRow.outApu (port v : Byte) : OpcodeRow.Statement (.outApu port v) :=
  fun h => ioRow_masked _ _ _ _ 0x1E0 _ (by replace h : apuPort port = true := h; revert port; decide) (by decide)
theorem OpcodeRow.inUnmapped7e : OpcodeRow.Statement .inUnmapped7e :=
  fun _ => ioRow_masked _ _ _ _ 0x1FF _ (by decide) (by decide)
theorem OpcodeRow.outUnmapped7e (v : Byte) : OpcodeRow.Statement (.outUnmapped7e v) :=
  fun _ => ioRow_masked _ _ _ _ 0x1FF _ (by decide) (by decide)
theorem OpcodeRow.inUnmapped7f : OpcodeRow.Statement .inUnmapped7f :=
  fun _ => ioRow_masked _ _ _ _ 0x1FF _ (by decide) (by decide)
theorem OpcodeRow.outUnmapped7f (v : Byte) : OpcodeRow.Statement (.outUnmapped7f v) :=
  fun _ => ioRow_masked _ _ _ _ 0x1FF _ (by decide) (by decide)
theorem OpcodeRow.inIrqStatus : OpcodeRow.Statement .inIrqStatus :=
  fun _ => ioRow_masked _ _ _ _ 0x1FF _ (by decide) (by decide)
theorem OpcodeRow.outIrqStatus (v : Byte) : OpcodeRow.Statement (.outIrqStatus v) :=
  fun _ => ioRow_masked _ _ _ _ 0x1FF _ (by decide) (by decide)
theorem OpcodeRow.inIrqEnable : OpcodeRow.Statement .inIrqEnable :=
  fun _ => ioRow_masked _ _ _ _ 0x1FF _ (by decide) (by decide)
theorem OpcodeRow.outIrqEnable (v : Byte) : OpcodeRow.Statement (.outIrqEnable v) :=
  fun _ => ioRow_masked _ _ _ _ 0x1FF _ (by decide) (by decide)
theorem OpcodeRow.inIrqAck : OpcodeRow.Statement .inIrqAck :=
  fun _ => ioRow_masked _ _ _ _ 0x1FF _ (by decide) (by decide)
theorem OpcodeRow.outIrqAck (v : Byte) : OpcodeRow.Statement (.outIrqAck v) :=
  fun _ => ioRow_masked _ _ _ _ 0x1FF _ (by decide) (by decide)
theorem OpcodeRow.inUnmapped (port : Byte) : OpcodeRow.Statement (.inUnmapped port) :=
  fun _ => ioRow_masked _ _ _ _ 0x100 _ (by revert port; decide) (by decide)
theorem OpcodeRow.outUnmapped (port v : Byte) : OpcodeRow.Statement (.outUnmapped port v) :=
  fun _ => ioRow_masked _ _ _ _ 0x100 _ (by clear * -; revert port; decide) (by decide)
theorem OpcodeRow.powerOn : OpcodeRow.Statement .powerOn :=
  fun _ => ⟨_, rfl⟩
theorem OpcodeRow.reset : OpcodeRow.Statement .reset :=
  fun _ => ⟨_, rfl⟩
theorem OpcodeRow.loadRom (bytes : List Byte) : OpcodeRow.Statement (.loadRom bytes) :=
  fun _ => ⟨_, rfl⟩
theorem OpcodeRow.stepFrame : OpcodeRow.Statement .stepFrame :=
  fun _ => ⟨_, rfl⟩
theorem OpcodeRow.scanlineStep : OpcodeRow.Statement .scanlineStep :=
  fun _ => ⟨_, rfl⟩
theorem OpcodeRow.onScanlineStart (n : Fin 262) : OpcodeRow.Statement (.onScanlineStart n) :=
  fun _ => ⟨_, rfl⟩
theorem OpcodeRow.renderScanline (n : Fin 192) : OpcodeRow.Statement (.renderScanline n) :=
  fun _ => ⟨_, rfl⟩
theorem OpcodeRow.dmaBoundary (n : Fin 262) (vblank : Bool) (frame : Nat) : OpcodeRow.Statement (.dmaBoundary n vblank frame) :=
  fun _ => ⟨_, rfl⟩
theorem OpcodeRow.apuAdvance (cycles : Nat) : OpcodeRow.Statement (.apuAdvance cycles) :=
  fun _ => ⟨_, rfl⟩
theorem OpcodeRow.irqRaise (mask : Byte) : OpcodeRow.Statement (.irqRaise mask) :=
  fun _ => ⟨_, rfl⟩
theorem OpcodeRow.irqAck (mask : Byte) : OpcodeRow.Statement (.irqAck mask) :=
  fun _ => ⟨_, rfl⟩
theorem OpcodeRow.irqWriteEnable (mask : Byte) : OpcodeRow.Statement (.irqWriteEnable mask) :=
  fun _ => ⟨_, rfl⟩
theorem OpcodeRow.irqReadStatus : OpcodeRow.Statement .irqReadStatus :=
  fun _ => ⟨_, rfl⟩
theorem OpcodeRow.irqReadEnable : OpcodeRow.Statement .irqReadEnable :=
  fun _ => ⟨_, rfl⟩
theorem OpcodeRow.irqPreCpuUpdate : OpcodeRow.Statement .irqPreCpuUpdate :=
  fun _ => ⟨_, rfl⟩
theorem OpcodeRow.irqPostCpuUpdate : OpcodeRow.Statement .irqPostCpuUpdate :=
  fun _ => ⟨_, rfl⟩
theorem OpcodeRow.irqIntLineAsserted : OpcodeRow.Statement .irqIntLineAsserted :=
  fun _ => ⟨_, rfl⟩
theorem OpcodeRow.cpuStep (budget : Nat) : OpcodeRow.Statement (.cpuStep budget) :=
  fun _ => ⟨_, rfl⟩
theorem OpcodeRow.ringPush (frames : List Frame) : OpcodeRow.Statement (.ringPush frames) :=
  fun _ => ⟨_, rfl⟩
theorem OpcodeRow.popAudioFrames (n : Nat) : OpcodeRow.Statement (.popAudioFrames n) :=
  fun _ => ⟨_, rfl⟩
theorem OpcodeRow.framebufferRead : OpcodeRow.Statement .framebufferRead :=
  fun _ => ⟨_, rfl⟩
theorem OpcodeRow.dmaExecute (src dst len : Half) (pal : Bool) : OpcodeRow.Statement (.dmaExecute src dst len pal) :=
  fun _ => ⟨_, rfl⟩
theorem OpcodeRow.setHostButtons (b : Buttons) : OpcodeRow.Statement (.setHostButtons b) :=
  fun _ => ⟨_, rfl⟩

end Sys2Proof.Laws
end

