-- ==== Sys2Proof/Laws/Render.lean ====
section
/-! SUPPORT. The renderer's readings of SAT entries are those of the bytes of VRAM (spec/45_ppu_render.md R301, R304 to
R307), and what a push leaves in the slots of the ring (spec/46_audio_ring.md R343): the lemmas that statements about
sprites and pushes cite instead of unfolding the readings. -/

namespace Sys2Proof.Machine

/-! ## Fields of a SAT entry (R305) -/

theorem satByte_toNat (p : Ppu) (i k : Nat) : (satByte p i k).toNat = satField p i k := rfl

theorem attrFlipX_eq (attr : Byte) : attrFlipX attr = decide (attr.toNat / 32 % 2 = 1) := by revert attr; decide

theorem attrFlipY_eq (attr : Byte) : attrFlipY attr = decide (attr.toNat / 64 % 2 = 1) := by revert attr; decide

theorem attrBehind_eq (attr : Byte) : attrBehind attr = decide (attr.toNat / 16 % 2 = 1) := by revert attr; decide

theorem attrPalette_eq (attr : Byte) : attrPalette attr = BitVec.ofNat 4 (attr.toNat % 16) := by revert attr; decide

theorem highNibble_toNat (b : Byte) : (b.extractLsb' 4 4).toNat = b.toNat / 16 := by revert b; decide

theorem lowNibble_toNat (b : Byte) : (b.extractLsb' 0 4).toNat = b.toNat % 16 := by revert b; decide

/-- Tile bits 7:0 and 11:8. -/
theorem satTile_eq (lo hi : Byte) : satTile lo hi = lo.toNat + 256 * (hi.toNat % 16) := by
  have := lo.isLt
  unfold satTile
  rw [BitVec.toNat_append, lowNibble_toNat, Nat.shiftLeft_eq, Nat.mul_comm, ← Nat.two_pow_add_eq_or_of_lt this]
  omega

/-! ## Rows, colours and cells of a sprite (R304, R306, R307) -/

theorem spriteDy_eq (p : Ppu) (n i : Nat) : spriteDy p n i = satDy p n i := by
  have h := (satByte p i 0).isLt
  unfold spriteDy satDy
  rw [← satByte_toNat]
  omega

/-- The candidates in bytes of VRAM are those the selection loop examines (R304). -/
theorem candidates_eq (p : Ppu) (n : Nat) : candidates p n = (List.range Config.satEntries).filter (isCandidate p n) := by
  unfold candidates
  congr 1
  funext i
  rw [isCandidate, spriteDy_eq]

theorem spriteTileColumn_eq (p : Ppu) (i c : Nat) :
    spriteTileColumn p i c = if satField p i 4 / 32 % 2 = 1 then 7 - c else c := by
  rw [spriteTileColumn, attrFlipX_eq, satByte_toNat]
  simp only [decide_eq_true_eq]

theorem spriteTileRow_eq (p : Ppu) (n i : Nat) :
    spriteTileRow p n i = if satField p i 4 / 64 % 2 = 1 then 7 - satDy p n i else satDy p n i := by
  rw [spriteTileRow, attrFlipY_eq, satByte_toNat, spriteDy_eq]
  simp only [decide_eq_true_eq]

/-- A sprite's colour index, from the bytes of VRAM. -/
theorem spriteColor_toNat (p : Ppu) (n i c : Nat) : (spriteColor p n i c).toNat = satPixel p n i c := by
  have lo := satByte_toNat p i 2
  have hi := satByte_toNat p i 3
  unfold spriteColor satPixel
  rw [spriteTileColumn_eq, spriteTileRow_eq, satTile_eq, lo, hi, tilePixel]
  simp only [apply_ite BitVec.toNat, highNibble_toNat, lowNibble_toNat]
  rfl

/-- Transparent is transparent. -/
theorem spriteColor_eq_zero (p : Ppu) (n i c : Nat) : spriteColor p n i c = 0 ↔ satPixel p n i c = 0 := by
  rw [← spriteColor_toNat]
  exact ⟨fun h => by rw [h]; rfl, fun h => BitVec.eq_of_toNat_eq h⟩

/-- What a sprite leaves in a cell, from the bytes of VRAM. -/
theorem spriteCell_eq (p : Ppu) (n i c : Nat) :
    spriteCell p i (spriteColor p n i c) =
      ⟨true, BitVec.ofNat 4 (satPixel p n i c), BitVec.ofNat 4 (satField p i 4 % 16),
        decide (satField p i 4 / 16 % 2 = 1)⟩ := by
  rw [spriteCell, attrPalette_eq, attrBehind_eq, ← spriteColor_toNat, BitVec.ofNat_toNat, BitVec.setWidth_eq]
  rfl

/-! ## Slots of the ring (R343) -/

theorem writeSlots_length (cap : Nat) (frames : List Frame) : ∀ (pos : Nat) (ring : List Frame),
    (writeSlots cap frames pos ring).length = ring.length := by
  induction frames with
  | nil => exact fun _ _ => rfl
  | cons f t ih =>
    intro pos ring
    rw [writeSlots, ih, List.length_set]

/-- A slot that no frame was written to is as before. -/
theorem writeSlots_other (cap : Nat) (frames : List Frame) : ∀ (pos : Nat) (ring : List Frame) (slot : Nat),
    (∀ j, j < frames.length → slot ≠ (pos + j) % cap) → (writeSlots cap frames pos ring)[slot]? = ring[slot]? := by
  induction frames with
  | nil => exact fun _ _ _ _ => rfl
  | cons f t ih =>
    intro pos ring slot h
    rw [writeSlots, ih]
    · exact List.getElem?_set_ne fun e => h 0 (Nat.succ_pos _) e.symm
    · intro j hj
      have := h (j + 1) (Nat.succ_lt_succ hj)
      rwa [show pos + 1 + j = pos + (j + 1) by omega]

end Sys2Proof.Machine
end

