-- ==== Sys2Proof/Tests/Slice0.lean ====
section
/-! SUPPORT. Tests on fixed values: decoding of words written out from spec/30_encoding.md and the opcode table, one step on
small states with the expected values of spec/95_test_vectors.md (the section is named in each comment), and for every
statement with hypotheses a state and operands that meet them. -/

open Sys2Proof Sys2Proof.Machine

namespace Sys2Proof.Tests

-- One theorem after the other: each `decide +kernel` would hold a thread of its own.
set_option Elab.async false

/-! ## Well-formedness -/

/-- 0x5F and 0x7E are no APU ports (R194). -/
theorem test_wellFormed_in_apu : Instr.wellFormed (.inApu 0x5F) = false ∧ Instr.wellFormed (.inApu 0x7E) = false := by
  decide
theorem test_wellFormed_out_apu : Instr.wellFormed (.outApu 0x82 0) = false := by decide
/-- 0x11 has a register (R252). -/
theorem test_wellFormed_in_unmapped : Instr.wellFormed (.inUnmapped 0x11) = false := by decide
/-- 0x7E has a row of its own (R193). -/
theorem test_wellFormed_out_unmapped : Instr.wellFormed (.outUnmapped 0x7E 0) = false := by decide

/-! ## Decoding: every row's word, written out from R110 (direction, port, data) and the table -/

/-- Reads of the PPU and sprite ports; the data bits play no part. -/
theorem test_decode_ppu_reads :
    [0x01001, 0x01100, 0x012FF, 0x01300, 0x01400, 0x01500, 0x01600, 0x01700, 0x01800, 0x01E00, 0x01F00, 0x02000,
      0x02100, 0x02201].map decodeIo =
    [some .inVdpStatus, some .inVdpCtrl, some .inScrollAX, some .inScrollAY, some .inScrollBX, some .inScrollBY,
      some .inTmapABase, some .inTmapBBase, some .inPatBase, some .inPalAddr, some .inPalData, some .inSprCtrl,
      some .inSatBase, some .inSprStatus] := by decide +kernel

theorem test_decode_ppu_writes :
    [0x1105A, 0x11103, 0x11205, 0x11308, 0x11401, 0x115C8, 0x11628, 0x117FF, 0x11804, 0x11E02, 0x11F07, 0x12001,
      0x1213F, 0x12280].map decodeIo =
    [some (.outVdpStatus 0x5A), some (.outVdpCtrl 0x03), some (.outScrollAX 0x05), some (.outScrollAY 0x08),
      some (.outScrollBX 0x01), some (.outScrollBY 0xC8), some (.outTmapABase 0x28), some (.outTmapBBase 0xFF),
      some (.outPatBase 0x04), some (.outPalAddr 0x02), some (.outPalData 0x07), some (.outSprCtrl 0x01),
      some (.outSatBase 0x3F), some (.outSprStatus 0x80)] := by decide +kernel

theorem test_decode_dma :
    [0x03000, 0x13034, 0x03100, 0x131C0, 0x03200, 0x132FE, 0x03300, 0x133BF, 0x03400, 0x13404, 0x03500, 0x13501,
      0x03603, 0x13683].map decodeIo =
    [some .inDmaSrcLo, some (.outDmaSrcLo 0x34), some .inDmaSrcHi, some (.outDmaSrcHi 0xC0), some .inDmaDstLo,
      some (.outDmaDstLo 0xFE), some .inDmaDstHi, some (.outDmaDstHi 0xBF), some .inDmaLenLo, some (.outDmaLenLo 0x04),
      some .inDmaLenHi, some (.outDmaLenHi 0x01), some .inDmaCtrl, some (.outDmaCtrl 0x83)] := by decide +kernel

/-- The APU rows are overridden at 0x7E and 0x7F (R193, 95_test_vectors.md 2.1). -/
theorem test_decode_bus :
    [0x06000, 0x17D55, 0x07EFF, 0x17E12, 0x07FFF, 0x17F34, 0x08009, 0x180FF, 0x08101, 0x18101, 0x082FF, 0x18201,
      0x02FFF, 0x11B5A].map decodeIo =
    [some (.inApu 0x60), some (.outApu 0x7D 0x55), some .inUnmapped7e, some (.outUnmapped7e 0x12), some .inUnmapped7f,
      some (.outUnmapped7f 0x34), some .inIrqStatus, some (.outIrqStatus 0xFF), some .inIrqEnable,
      some (.outIrqEnable 0x01), some .inIrqAck, some (.outIrqAck 0x01), some (.inUnmapped 0x2F),
      some (.outUnmapped 0x1B 0x5A)] := by decide +kernel

/-- The identifiers of R114, those without an argument. -/
theorem test_decode_hooks_plain :
    [0x01, 0x02, 0x04, 0x05, 0x0D, 0x0E, 0x0F, 0x10, 0x11, 0x15].map (fun op => decode (.hook [op])) =
    [.ok .powerOn, .ok .reset, .ok .stepFrame, .ok .scanlineStep, .ok .irqReadStatus, .ok .irqReadEnable,
      .ok .irqPreCpuUpdate, .ok .irqPostCpuUpdate, .ok .irqIntLineAsserted, .ok .framebufferRead] := by rfl

/-- The identifiers of R114 with arguments in the model's packing (log entry 2). -/
theorem test_decode_hooks_arguments :
    [[0x03, 0x02, 0x3E, 0x01], [0x06, 0x05, 0x01], [0x07, 0xBF], [0x08, 0xC0, 0x00, 0x01, 0x81, 0x01],
      [0x09, 0xD5, 0x02], [0x0A, 0x02], [0x0B, 0x01], [0x0C, 0x80], [0x12, 0xD6, 0x02],
      [0x13, 0x01, 0x34, 0x12, 0x00, 0x80], [0x14, 0x05], [0x16, 0x00, 0xC0, 0x00, 0x01, 0x04, 0x00, 0x01],
      [0x17, 0x41]].map (fun bytes => decode (.hook bytes)) =
    [.ok (.loadRom [0x3E, 0x01]), .ok (.onScanlineStart 261), .ok (.renderScanline 191),
      .ok (.dmaBoundary 192 true 129), .ok (.apuAdvance 341), .ok (.irqRaise 0x02), .ok (.irqAck 0x01),
      .ok (.irqWriteEnable 0x80), .ok (.cpuStep 342), .ok (.ringPush [⟨0x1234, 0x8000⟩]), .ok (.popAudioFrames 5),
      .ok (.dmaExecute 0xC000 0x0100 4 true),
      .ok (.setHostButtons ⟨true, false, false, false, false, false, true, false⟩)] := by rfl

/-- No identifier outside R114's table, no short argument, no scanline past its range, no trailing bytes. -/
theorem test_decode_refuses :
    [[], [0x00], [0x18], [0x0A], [0x06, 0x06, 0x01], [0x07, 0xC0], [0x05, 0x01]].map
      (fun bytes => decode (.hook bytes)) =
    [.error .emptyHook, .error (.reservedHook 0x00), .error (.reservedHook 0x18), .error .truncated,
      .error .scanlineOutOfRange, .error .scanlineOutOfRange, .error .trailingBytes] := by rfl

theorem test_decodeTableWord :
    decodeTableWord 24 0x11103 = some (.outVdpCtrl 0x03) ∧ decodeTableWord 8 0x05 = some .scanlineStep ∧
      decodeTableWord 8 0x16 = some (.dmaExecute 0 0 0 false) ∧ decodeTableWord 8 0x18 = none := by
  refine ⟨?_, ?_, ?_, ?_⟩ <;> rfl

/-! ## States for the tests -/

/-- What some operations answer from the reset state. -/
def answerOf (ops : List Instr) (s : State) : Option Reply :=
  match runOps ops s with
  | .next t => some t.env.reply
  | .fault _ => none
  | .refused _ => none

/-- The state some operations leave, or the state itself where they stop. -/
def stateAfter (ops : List Instr) (s : State) : State :=
  match runOps ops s with
  | .next t => t
  | .fault _ => s
  | .refused _ => s

/-- A controller state (R44 to R46) in the reset state. -/
def irqState (pending enable : Byte) (line : Bool) : State := { State.reset with irq := ⟨pending, enable, line⟩ }

/-- The reset state at a line, with the CPU doing what is listed and no overshoot, and no pops. -/
def lineState (n : Fin 262) (acts : List CpuAction) : State :=
  { State.reset with sched.currentScanline := n, env.cpuTape := [⟨acts, 0⟩], env.popTape := [[]] }

/-! ## Ports (95_test_vectors.md 2.5, 2.7) -/

theorem test_in_vdpStatus : answerOf [.inVdpStatus] { State.reset with ppu.vblank := true } = some (.byte 0x01) := rfl
theorem test_out_vdpStatus :
    (stateAfter [.outVdpStatus 0x00] { State.reset with ppu.vblank := true }).ppu.vblank = true := rfl
theorem test_vdpCtrl : answerOf [.outVdpCtrl 0x03, .inVdpCtrl] State.reset = some (.byte 0x03) := rfl
/-- The write is pending only. -/
theorem test_vdpCtrl_staged : (stateAfter [.outVdpCtrl 0x03] State.reset).ppu.active.vdpCtrl = 0x00 := rfl
theorem test_scrollAX : answerOf [.outScrollAX 0x10, .outScrollAY 0x20, .inScrollAX] State.reset = some (.byte 0x10) := rfl
theorem test_scrollAY : answerOf [.outScrollAY 0xC8, .outScrollBY 0x01, .inScrollAY] State.reset = some (.byte 0xC8) := rfl
theorem test_scrollBX : answerOf [.outScrollBX 0x07, .outScrollAX 0x01, .inScrollBX] State.reset = some (.byte 0x07) := rfl
theorem test_scrollBY : answerOf [.outScrollBY 0x09, .outScrollBX 0x01, .inScrollBY] State.reset = some (.byte 0x09) := rfl
theorem test_tmapABase : answerOf [.outTmapABase 40, .outTmapBBase 1, .inTmapABase] State.reset = some (.byte 40) := rfl
theorem test_tmapBBase : answerOf [.outTmapBBase 0xFF, .outPatBase 1, .inTmapBBase] State.reset = some (.byte 0xFF) := rfl
theorem test_patBase : answerOf [.outPatBase 4, .outTmapABase 1, .inPatBase] State.reset = some (.byte 4) := rfl
theorem test_sprCtrl : answerOf [.outSprCtrl 0xFE, .outSatBase 1, .inSprCtrl] State.reset = some (.byte 0xFE) := rfl
theorem test_satBase : answerOf [.outSatBase 0x3F, .outSprCtrl 1, .inSatBase] State.reset = some (.byte 0x3F) := rfl
theorem test_sprStatus :
    answerOf [.outSprStatus 0x00, .inSprStatus, .inSprStatus] { State.reset with ppu.sprOvfLatch := true } =
      some (.byte 0x01) := rfl
/-- `OUT (0x1E),0xFF; OUT (0x1F),0x33; IN A,(0x1E)`. -/
theorem test_palData_wraps :
    answerOf [.outPalAddr 0xFF, .outPalData 0x33, .inPalAddr] State.reset = some (.byte 0x00) ∧
      Memory.read (stateAfter [.outPalAddr 0xFF, .outPalData 0x33] State.reset).ppu.stagedPal 0xFF = 0x01 := by decide +kernel
/-- The round trip of 1.3, low byte then high byte. -/
theorem test_palData_low :
    answerOf [.outPalAddr 0x04, .outPalData 0xAB, .outPalAddr 0x04, .inPalData] State.reset = some (.byte 0xAB) := by decide +kernel
theorem test_palData_high :
    answerOf [.outPalAddr 0x05, .outPalData 0xFF, .outPalAddr 0x05, .inPalData] State.reset = some (.byte 0x01) := by decide +kernel
theorem test_unmapped :
    [.inUnmapped 0x00, .inUnmapped7e, .inUnmapped7f].map (fun i => answerOf [i] State.reset) =
      [some (.byte 0xFF), some (.byte 0xFF), some (.byte 0xFF)] := rfl
theorem test_out_unmapped :
    runOps [.outUnmapped 0x40 0x12, .outUnmapped7e 1, .outUnmapped7f 2] State.reset = .next State.reset := rfl
theorem test_out_apu : (stateAfter [.outApu 0x7C 0x80] State.reset).env.apuWrites = [⟨0, 0x7C, 0x80⟩] := rfl
theorem test_in_apu : answerOf [.inApu 0x7D] State.reset = some (.byte (Config.apuIoRead [] 0 0x7D)) := rfl
theorem test_setHostButtons :
    (stateAfter [.setHostButtons ⟨false, false, false, false, true, false, false, false⟩] State.reset).env.hostButtons.a =
      true := rfl

/-! ## IRQ controller (95_test_vectors.md 2.4 and S1) -/

theorem test_irqRaise : (stateAfter [.irqRaise 0x01] (irqState 0x00 0x01 false)).irq = ⟨0x01, 0x01, false⟩ := by rfl
theorem test_irqAck_recomputes : (stateAfter [.irqAck 0x00] (irqState 0x01 0x01 false)).irq = ⟨0x01, 0x01, true⟩ := by rfl
theorem test_irqAck : (stateAfter [.irqAck 0x04] (irqState 0x05 0x04 true)).irq = ⟨0x01, 0x04, false⟩ := by rfl
theorem test_irqWriteEnable :
    (stateAfter [.irqRaise 0xE0, .irqWriteEnable 0x80] (irqState 0x00 0x00 false)).irq = ⟨0xE0, 0x80, true⟩ := by rfl
/-- S1: TIMER raised, enabled, updated, acknowledged. -/
theorem test_irq_S1 :
    (stateAfter [.irqRaise 0x02, .irqWriteEnable 0x02, .irqPreCpuUpdate] State.reset).irq = ⟨0x02, 0x02, true⟩ ∧
      (stateAfter [.irqRaise 0x02, .irqWriteEnable 0x02, .irqPreCpuUpdate, .irqAck 0x02] State.reset).irq =
        ⟨0x00, 0x02, false⟩ := ⟨rfl, rfl⟩
theorem test_irqPostCpuUpdate : (stateAfter [.irqPostCpuUpdate] (irqState 0x05 0x04 false)).irq.intLine = true := by rfl
theorem test_irqReadStatus : answerOf [.irqReadStatus, .irqReadStatus] (irqState 0x09 0 false) = some (.byte 0x09) := rfl
theorem test_irqReadEnable : answerOf [.irqWriteEnable 0x11, .irqReadEnable] State.reset = some (.byte 0x11) := rfl
/-- Right after a raise the last recomputed value is still false (R166). -/
theorem test_irqIntLineAsserted :
    answerOf [.irqRaise 0x01, .irqIntLineAsserted] (irqState 0x00 0x01 false) = some (.bool false) := rfl
theorem test_in_irqStatus : answerOf [.inIrqStatus, .inIrqStatus] (irqState 0x09 0 false) = some (.byte 0x09) := rfl
theorem test_out_irqStatus : (stateAfter [.outIrqStatus 0xFF] (irqState 1 1 true)).irq = ⟨1, 1, true⟩ := rfl
theorem test_in_irqEnable : answerOf [.inIrqEnable] (irqState 0 0x11 false) = some (.byte 0x11) := rfl
theorem test_out_irqEnable : (stateAfter [.outIrqEnable 0x01] (irqState 0x01 0x00 false)).irq = ⟨1, 1, true⟩ := by rfl
theorem test_in_irqAck : answerOf [.inIrqAck] (irqState 1 1 true) = some (.byte 0xFF) := rfl
theorem test_out_irqAck :
    (stateAfter [.outIrqAck 0x01] (irqState 0x03 0x03 true)).irq = ⟨0x02, 0x03, true⟩ ∧
      (stateAfter [.outIrqAck 0x03] (irqState 0x03 0x03 true)).irq = ⟨0x00, 0x03, false⟩ := ⟨by rfl, by rfl⟩

/-! ## Memory primitives (95_test_vectors.md 2.2, 1.3) -/

theorem test_memRead :
    let s := { State.reset with rom := [0, 0, 0, 0x21], wram := [(0x3FFF, 0x9C)] }
    s.memRead 0x0003 = 0x21 ∧ s.memRead 0x0005 = 0xFF ∧ s.memRead 0xBFFF = 0xFF ∧ s.memRead 0xFFFF = 0x9C := by decide +kernel
theorem test_memWrite :
    (State.reset.memWrite 0xC123 0x5A).memRead 0xC123 = 0x5A ∧ (State.reset.memWrite 0x9000 0x5A).memRead 0x9000 = 0xFF := by
  decide +kernel
theorem test_vram :
    vramRead [(0, 0x11)] 49152 = 0x11 ∧ vramRead16 [(0, 0x12), (49151, 0x34)] 49151 = 0x1234 ∧
      (State.reset.vramWrite 0xFFFF 0x42).ppu.vram = [(16383, 0x42)] := by decide +kernel
theorem test_palWriteByte :
    (State.reset.palWriteByte 0x03 0x81).ppu.stagedPal = [(3, 0x01)] ∧
      (State.reset.palWriteByte 0x03 0xFE).ppu.stagedPal = [] ∧
      (State.reset.palWriteByte 0x02 0xFE).ppu.stagedPal = [(2, 0xFE)] := by decide +kernel

/-! ## DMA engine (95_test_vectors.md 2.6) -/

theorem test_dmaSrc_halves :
    (stateAfter [.outDmaSrcLo 0x00, .outDmaSrcHi 0xC0, .outDmaSrcLo 0x34] State.reset).dma.src = 0xC034 ∧
      answerOf [.outDmaSrcLo 0x34, .outDmaSrcHi 0xC0, .inDmaSrcHi] State.reset = some (.byte 0xC0) := by decide +kernel
theorem test_in_dmaSrcLo : answerOf [.outDmaSrcLo 0x34, .outDmaSrcHi 0xC0, .inDmaSrcLo] State.reset = some (.byte 0x34) := by
  decide +kernel
theorem test_dmaDst :
    (stateAfter [.outDmaDstHi 0xBF, .outDmaDstLo 0xFE] State.reset).dma.dst = 0xBFFE ∧
      answerOf [.outDmaDstHi 0xBF, .inDmaDstLo] State.reset = some (.byte 0x00) ∧
      answerOf [.outDmaDstHi 0xBF, .inDmaDstHi] State.reset = some (.byte 0xBF) := by decide +kernel
theorem test_dmaLen :
    (stateAfter [.outDmaLenLo 0x04, .outDmaLenHi 0x01] State.reset).dma.len = 0x0104 ∧
      answerOf [.outDmaLenLo 0x04, .inDmaLenLo] State.reset = some (.byte 0x04) ∧
      answerOf [.outDmaLenLo 0x04, .inDmaLenHi] State.reset = some (.byte 0x00) := by decide +kernel
theorem test_dmaCtrl : answerOf [.outDmaCtrl 0x83, .inDmaCtrl] State.reset = some (.byte 0x03) := by decide +kernel
/-- The LEN 0 row: START cleared, nothing else. -/
theorem test_dmaCtrl_after_boundary :
    answerOf [.outDmaCtrl 0x83, .dmaBoundary 200 true 0, .inDmaCtrl] State.reset = some (.byte 0x02) := by decide +kernel

/-- The engine as the vectors set it up: SRC 0xC000, LEN 4, work RAM 01 02 03 04. -/
def dmaState (dst : Half) (ctrl : Byte) : State :=
  { State.reset with
    wram := [(0, 1), (1, 2), (2, 3), (3, 4)]
    dma := ⟨0xC000, dst, 4, ctrl, DmaQueue.reset, false, false⟩ }

/-- The rows "immediate" and "drop". -/
theorem test_dmaBoundary_now :
    (stateAfter [.dmaBoundary 200 true 0] (dmaState 0x0100 0x01)).ppu.vram = [(256, 1), (257, 2), (258, 3), (259, 4)] ∧
      (stateAfter [.dmaBoundary 50 false 0] (dmaState 0x0100 0x01)).dma =
        ⟨0xC000, 0x0100, 4, 0x00, DmaQueue.reset, false, true⟩ := by decide +kernel
/-- The row "queue": queued at line 100, copied at line 192, with the registers changed in between. -/
theorem test_dmaBoundary_queue :
    let t := stateAfter [.dmaBoundary 100 false 0, .outDmaDstHi 0x02, .dmaBoundary 192 true 0] (dmaState 0x0100 0x03)
    t.ppu.vram = [(256, 1), (257, 2), (258, 3), (259, 4)] ∧ t.dma.queue.valid = false ∧
      t.dma.lastTriggerWasQueued = true ∧ t.dma.ctrl = 0x02 := by decide +kernel
/-- The destination wraps VRAM (1.4), and past 0xFFFF only modulo 49152 (D52). -/
theorem test_dmaExecute_wraps :
    (stateAfter [.dmaExecute 0xC000 0xBFFE 4 false] (dmaState 0 0)).ppu.vram =
        [(0, 3), (1, 4), (49150, 1), (49151, 2)] ∧
      (stateAfter [.dmaExecute 0xC000 0xFFFF 2 false] (dmaState 0 0)).ppu.vram = [(16383, 1), (16384, 2)] := by decide +kernel
/-- The row "palette wrap", and the source wrap of D19. -/
theorem test_dmaExecute_palette :
    (stateAfter [.dmaExecute 0xC000 0x00FF 2 true] { State.reset with wram := [(0, 0xAB), (1, 0xCD)] }).ppu.stagedPal =
        [(0, 0xCD), (255, 0x01)] ∧
      (stateAfter [.dmaExecute 0xFFFF 0x0000 2 false]
        { State.reset with wram := [(0x3FFF, 0x11)], rom := [0x22] }).ppu.vram = [(0, 0x11), (1, 0x22)] := by decide +kernel

/-! ## Scheduler (95_test_vectors.md 2.3) -/

/-- R8, R130: 1342329375 over 3933566. -/
theorem test_defaultCpl : Config.defaultCpl = 1342329375 / 3933566 := by decide +kernel

/-- Step 0 of the budget table, and the record of the debug ring. -/
theorem test_scanlineStep_budget :
    let t := stateAfter [.scanlineStep] (lineState 0 [])
    t.sched.cpuCycleAccumulator = 983369 / 3933566 ∧ t.sched.totalTstatesExecuted = 341 ∧ t.sched.currentScanline = 1 ∧
      t.sched.scanlineLog = [⟨0, 0, 341, 0, 983369 / 3933566⟩] := by decide +kernel

/-- Step 4 of the budget table: raw is 342; and the debt row 11, 342, 341. -/
theorem test_scanlineStep_debt :
    let t := stateAfter [.scanlineStep]
      { lineState 4 [] with
        sched.cpuCycleAccumulator := 1966738 / 1966783, sched.cpuCycleDebt := 11, env.cpuTape := [⟨[], 10⟩] }
    t.sched.cpuCycleAccumulator = 983279 / 3933566 ∧ t.sched.totalTstatesExecuted = 341 ∧ t.sched.cpuCycleDebt = 10 := by
  decide +kernel

/-- S2: VBLANK raised at 192 with the source enabled; and the hook of line 0. -/
theorem test_onScanlineStart :
    (stateAfter [.onScanlineStart 192] (irqState 0 0x01 false)).irq = ⟨0x01, 0x01, true⟩ ∧
      (stateAfter [.onScanlineStart 192] State.reset).ppu.vblank = true ∧
      (stateAfter [.onScanlineStart 192, .onScanlineStart 0] State.reset).ppu.vblank = false := by decide +kernel
/-- With `P_SYNTH_TIMER`, TIMER is raised at line 10 (R137). -/
theorem test_onScanlineStart_timer :
    (stateAfter [.onScanlineStart 10] { State.reset with params.synthTimer := true }).irq.pending = 0x02 ∧
      (stateAfter [.onScanlineStart 11] { State.reset with params.synthTimer := true }).irq.pending = 0x00 := by
  decide +kernel

/-- A slice of 341 T-states with the largest legal overshoot executes 370 (2.3). -/
theorem test_cpuStep_overshoot :
    answerOf [.cpuStep 341] { State.reset with env.cpuTape := [⟨[], 29⟩] } = some (.nat 370) := by rfl
/-- S2 in a slice: the acknowledge of port 0x82 deasserts `/INT` before the next sampling (R176). -/
theorem test_cpuStep_actions :
    (stateAfter [.cpuStep 341]
      { irqState 0x01 0x01 true with env.cpuTape := [⟨[.sampleInt, .output 0x1282 0x01, .sampleInt], 0⟩] }).env.cpuSeen =
      [.intLine true, .intLine false] := by decide +kernel

/-- A frame step of a machine with the CPU idle and no pops ends at line 0 of the next frame. -/
theorem test_stepFrame (s : State) : exec .stepFrame s = .next (s.scanlines 262) := rfl

/-! ## Rendering (95_test_vectors.md 2.8) -/

/-- The set-up of 2.8, with the first sprites given and every other SAT entry parked at y = 0xC0. -/
def renderPpu (sprites : List Byte) : Ppu :=
  { Ppu.reset with
    active := ⟨0x01, 0, 0, 0, 0, 8, 10, 0, 0x01, 0x3F⟩
    vram := [(32, 0x12), (64, 0x30), (88, 0x40), (0x2000, 0x01)] ++
      ((sprites.zipIdx.map fun p => (0x3F00 + p.2, p.1)).filter fun c => c.2 != 0) ++
      ((List.range 48).filter (fun i => sprites.length ≤ 8 * i)).map fun i => (0x3F00 + 8 * i, 0xC0) }

/-- The palette index at a column of a line. -/
def indexAt (p : Ppu) (n : Nat) (x : Fin 256) : Nat :=
  (composite (lineA p n x) (lineB p n x) (rasterSprites p n (selectSprites p n).chosen)[x]).val

theorem test_planes :
    let p := renderPpu []
    [lineA p 0 0, lineA p 0 1, lineA p 0 2] = [1, 2, 0] ∧
      [lineA { p with active.scrollAX := 255 } 0 0, lineA { p with active.scrollAX := 255 } 0 1] = [0, 1] ∧
      lineB { p with vram := [(0x2800, 1), (32, 0x12)] } 0 0 = 0 := by decide +kernel
/-- The rows of spr(0) = (10, 20, 2, 0x01), flip X, flip Y, and bank 9. -/
theorem test_sprite :
    indexAt (renderPpu [10, 20, 2, 0, 0x01, 0, 0, 0]) 10 20 = 0x13 ∧
      indexAt (renderPpu [10, 20, 2, 0, 0x21, 0, 0, 0]) 10 27 = 0x13 ∧
      indexAt (renderPpu [10, 20, 2, 0, 0x41, 0, 0, 0]) 11 20 = 0x14 ∧
      indexAt (renderPpu [10, 20, 2, 0, 0x09, 0, 0, 0]) 10 20 = 0x13 := by decide +kernel
/-- The rows of clipping, of the y wrap, and of two sprites at one column. -/
theorem test_sprite_edges :
    indexAt (renderPpu [10, 252, 2, 0, 0x21, 0, 0, 0]) 10 252 = 0 ∧
      (selectSprites (renderPpu [0xFA, 20, 2, 0, 0x01, 0, 0, 0]) 1).chosen = [0] ∧
      (selectSprites (renderPpu [0xF8, 20, 2, 0, 0x01, 0, 0, 0]) 0).chosen = [] ∧
      indexAt (renderPpu [0, 100, 2, 0, 0x01, 0, 0, 0, 0, 100, 1, 0, 0x02, 0, 0, 0]) 0 101 = 0x22 := by decide +kernel
/-- 16 candidates do not set the latch, 17 do, and the first 16 are chosen (R304). -/
theorem test_overflow :
    let p (k : Nat) : Ppu := { Ppu.reset with
      active.sprCtrl := 0x01, active.satBase := 0x3F
      vram := ((List.range 48).filter (fun i => k ≤ i)).map fun i => (0x3F00 + 8 * i, 0xC0) }
    selectSprites (p 16) 0 = ⟨List.range 16, false⟩ ∧ selectSprites (p 17) 0 = ⟨List.range 16, true⟩ := by decide +kernel
/-- The composite truth table. -/
theorem test_composite :
    [composite 0 0 SpritePixel.clear, composite 3 5 SpritePixel.clear, composite 0 5 SpritePixel.clear,
      composite 3 5 ⟨true, 7, 2, false⟩, composite 3 5 ⟨true, 7, 2, true⟩, composite 0 5 ⟨true, 3, 2, true⟩,
      composite 0 0 ⟨true, 15, 15, false⟩, composite 9 0 ⟨true, 1, 8, false⟩].map Fin.val =
    [0, 3, 5, 0x27, 3, 0x23, 0x7F, 0x01] := by decide +kernel
/-- The colour table. -/
theorem test_colours :
    [0x0000, 0x0007, 0x0038, 0x01C0, 0x01FF, 0x0049, 0x0092, 0x0100].map argbOfWord =
    [0xFF000000, 0xFFFF0000, 0xFF00FF00, 0xFF0000FF, 0xFFFFFFFF, 0xFF242424, 0xFF484848, 0xFF000091] := by decide +kernel
/-- With the display disabled the line is the backdrop (R300). -/
theorem test_renderScanline_blank :
    (stateAfter [.renderScanline 5] State.reset).ppu.fb[5][7] = 0xFF000000 := by decide +kernel
/-- The host view of R316: pixel (1, 0) is the second. -/
theorem test_framebufferRead :
    (framebufferPixels ((Ppu.reset.fb).set 0 ((Vector.replicate 256 (0 : Argb)).set 1 0xFFFF0000)))[1]? = some 0xFFFF0000 := by
  decide +kernel

/-! ## Audio (95_test_vectors.md 2.9) -/

/-- R340 at 48000 and at 44100 Hz. -/
theorem test_cyclesPerSampleFp : cyclesPerSampleFp 48000 = 480438397174 ∧ cyclesPerSampleFp 44100 = 522926146584 := by
  decide +kernel

/-- A ring of four slots. -/
def ringState (ring : List Frame) (w r : BitVec 32) : State :=
  { State.reset with params.ringCap := 4, audio := ⟨0, ring, w, r, 0, 0⟩ }

/-- A frame told from the others. -/
def frame (k : Nat) : Frame := ⟨BitVec.ofNat 16 k, BitVec.ofNat 16 (k + 100)⟩

/-- Pushing five frames into an empty ring writes three and returns three. -/
theorem test_ringPush :
    let t := stateAfter [.ringPush [frame 0, frame 1, frame 2, frame 3, frame 4]]
      (ringState (List.replicate 4 ⟨0, 0⟩) 0 0)
    t.env.reply = .nat 3 ∧ t.audio.writePos = 3 ∧ t.audio.ring = [frame 0, frame 1, frame 2, ⟨0, 0⟩] := by decide +kernel
/-- The row `RING_PUSH([g0, g1])`: slots 3 and 0. -/
theorem test_ringPush_wraps :
    let t := stateAfter [.ringPush [frame 7, frame 8]] (ringState [frame 0, frame 1, frame 2, ⟨0, 0⟩] 3 2)
    t.env.reply = .nat 2 ∧ t.audio.writePos = 1 ∧ t.audio.ring = [frame 8, frame 1, frame 2, frame 7] := by decide +kernel
/-- The row `POP_AUDIO_FRAMES(5)` with three frames stored. -/
theorem test_popAudioFrames :
    let t := stateAfter [.popAudioFrames 5] (ringState [frame 8, frame 1, frame 2, frame 7] 1 2)
    t.env.reply = .nat 3 ∧ t.audio.readPos = 1 ∧ t.audio.ringUnderruns = 1 ∧
      t.env.audioOut = [2, 102, 7, 107, 8, 108, 0, 0, 0, 0] := by decide +kernel
theorem test_popAudioFrames_none :
    (stateAfter [.popAudioFrames 0] (ringState [] 1 1)).audio.ringUnderruns = 0 := by decide +kernel

/-- `APU_ADVANCE(341)` schedules three frames and leaves 23268656414 (by R342's loop, `scheduleFrames_eq`). -/
theorem test_apuAdvance : State.reset.apuSchedule 341 = (3, 23268656414) := by
  have h : cyclesPerSampleFp State.reset.params.sampleRate = 480438397174 := test_cyclesPerSampleFp.1
  unfold State.apuSchedule
  rw [h, scheduleFrames_eq (by omega) _ _ le_rfl]
  decide +kernel

/-! ## Reset and host operations (95_test_vectors.md 2.10) -/

theorem test_loadRom :
    answerOf [.loadRom [0x3E, 0x01]] State.reset = some (.bool true) ∧
      (stateAfter [.loadRom [0x3E, 0x01]] State.reset).memRead 0x0001 = 0x01 ∧
      (stateAfter [.loadRom [0x3E, 0x01]] State.reset).memRead 0x0002 = 0xFF := by decide +kernel
theorem test_loadRom_limits :
    execLoadRom (List.replicate 32769 0) State.reset = .next (State.reset.answer (.bool false)) ∧
      execLoadRom (List.replicate 32768 0) State.reset =
        .next (State.answer { State.reset with rom := List.replicate 32768 0 } (.bool true)) := by
  constructor
  · exact if_pos (by rw [List.length_replicate]; decide)
  · exact if_neg (by rw [List.length_replicate]; decide)
theorem test_reset :
    (stateAfter [.reset] { dmaState 0x0100 0x01 with rom := [7], sched.frameCounter := 9 }).dma = Dma.reset ∧
      (stateAfter [.reset] { dmaState 0x0100 0x01 with rom := [7], sched.frameCounter := 9 }).rom = [7] := ⟨rfl, rfl⟩
theorem test_powerOn :
    answerOf [.powerOn] State.reset = some (.bool true) ∧ (stateAfter [.powerOn] (dmaState 1 1)).memRead 0x0000 = 0xFF := by
  exact ⟨rfl, rfl⟩

/-! ## Witnesses: for each statement with hypotheses, states and operands that meet them -/

/-- A machine in the middle of a frame: line 100, memories, palettes and registers in use, a DMA request queued, frames in
the ring, and a scanline step requested during which the CPU writes a port and the consumer pops. -/
def busy : State :=
  { State.reset with
    sched.currentScanline := 100
    sched.cpuCycleAccumulator := 1 / 4
    sched.cpuCycleDebt := 5
    ppu.pending.sprCtrl := 1
    ppu.active.vdpCtrl := 3
    ppu.vram := [(0, 0x11), (49151, 0x22)]
    ppu.stagedPal := [(2, 0x07), (255, 0x01)]
    ppu.activePal := [(2, 0x07)]
    ppu.activeArgb := Vector.ofFn fun e => argb [(2, 0x07)] e
    ppu.sprOvfLatch := true
    irq := ⟨0x01, 0x01, true⟩
    dma.ctrl := 0x03
    dma.queue := ⟨true, 0xC000, 0x0100, 4, false⟩
    audio.writePos := 5
    audio.readPos := 2
    audio.apuAccum := 1000
    wram := [(0, 1), (16383, 2)]
    rom := [0x3E, 0x01]
    env.requests := [.hook [0x05], .io 0x11103]
    env.cpuTape := [⟨[.output 0x0011 0x03, .store 0xC001 0x07], 7⟩]
    env.popTape := [[2]] }

theorem defaults_valid : Config.defaults.Valid :=
  ⟨by decide +kernel, by decide, by decide, by decide, by decide, ⟨12, rfl⟩, by decide⟩

theorem busy_ringOk : busy.audio.RingOk busy.params.ringCap where
  slots := by
    show (List.replicate Config.defaults.ringCap (⟨0, 0⟩ : Frame)).length = Config.defaults.ringCap
    exact List.length_replicate
  writeIn := by decide
  readIn := by decide

theorem witness_StepRunsDecodedRequest :
    busy.env.requests = .hook [0x05] :: [.io 0x11103] ∧ decode (.hook [0x05]) = .ok .scanlineStep := ⟨rfl, rfl⟩
theorem witness_IdleStepAndUndecodableRequest :
    State.reset.env.requests = [] ∧ decode (.hook []) = .error .emptyHook ∧
      { State.reset with env.requests := [.hook []] }.env.requests = [.hook []] := ⟨rfl, rfl, rfl⟩
theorem witness_reserved_identifiers :
    decode (.hook [0x00, 0x01]) = .error (.reservedHook 0x00) ∧ decode (.hook [0x18]) = .error (.reservedHook 0x18) ∧
      decode (.hook [0xFF]) = .error (.reservedHook 0xFF) := ⟨rfl, rfl, rfl⟩
theorem witness_EncodeDecodeRoundTrip :
    Instr.wellFormed (.inApu 0x60) = true ∧ Instr.wellFormed (.outApu 0x7D 0xFF) = true ∧
      Instr.wellFormed (.inUnmapped 0x37) = true ∧ encode (.apuAdvance 341) = .hook [0x09, 0xD5, 0x02] := by decide
theorem witness_DecodedOperationsAreWellFormed : decode (.io 0x07DFF) = .ok (.inApu 0x7D) := rfl
theorem witness_ReadOnlyAndReservedPorts :
    [0x01900, 0x01D00, 0x02300, 0x02F00].map decodeIo =
      [some (.inUnmapped 0x19), some (.inUnmapped 0x1D), some (.inUnmapped 0x23), some (.inUnmapped 0x2F)] := by
  decide +kernel
theorem witness_UnmappedPorts :
    [0x10001, 0x10F02, 0x13703, 0x15F04, 0x18305, 0x1FF06].map decodeIo =
      [some (.outUnmapped 0x00 1), some (.outUnmapped 0x0F 2), some (.outUnmapped 0x37 3), some (.outUnmapped 0x5F 4),
        some (.outUnmapped 0x83 5), some (.outUnmapped 0xFF 6)] := by decide +kernel
theorem witness_RaiseLatchesWithoutRecompute : (0x02 : Byte) &&& 0x03 ≠ 0 := by decide
theorem witness_ControllerInvariant :
    Instr.irqAck 0x01 ∈ [Instr.irqAck 0x01, .irqWriteEnable 0x01, .irqPreCpuUpdate, .irqPostCpuUpdate] ∧
      busy.irq.Settled ∧ ¬ mayUnsettle busy (.cpuStep 341) ∧ ¬ mayUnsettle busy .stepFrame ∧
      ¬ mayUnsettle busy (.renderScanline 5) ∧ ¬ mayUnsettle { busy with params.irqSprOvf := true } (.dmaBoundary 192 true 0) := by
  refine ⟨List.mem_cons_self, ?_, ?_, ?_, ?_, ?_⟩
  · show true = intAsserted 0x01 0x01
    decide
  · exact id
  · show ¬ (false = true ∨ false = true)
    decide
  · show ¬ false = true
    decide
  · show ¬ false = true
    decide
theorem witness_PendingClearedOnlyByAckOrReset :
    exec (.outIrqAck 0xFE) busy = .next (busy.portIrqAck 0xFE) ∧ busy.irq.pending.getLsbD 0 = true ∧
      ¬ mayClearPending busy 0 (.outIrqAck 0xFE) := by
  refine ⟨rfl, by decide +kernel, ?_⟩
  simp [mayClearPending]
/-- A CPU slice that acknowledges another bit. -/
theorem witness_PendingCleared_slice :
    ¬ mayClearPending { busy with env.cpuTape := [⟨[.output 0x0082 0x02], 0⟩] } 0 (.cpuStep 341) := by
  simp [mayClearPending, State.nextSlice, CpuAction.acks, portOf]
theorem witness_CpuMemoryMap : (0xBFFF : Half).toNat < 0xC000 ∧ ¬ (0xC000 : Half).toNat < 0xC000 := by decide

/-- Each clause of the boundary: queued at 192; START clear; LEN 0; in VBlank at 193; queued and dropped at 191. -/
theorem witness_DmaBoundaryCases :
    ((192 : Fin 262).val = 192 ∧ busy.dma.queue.valid = true) ∧
      ({ busy with dma.ctrl := 0x02 }.dma.ctrl.getLsbD 0 = false) ∧
      (busy.dma.ctrl.getLsbD 0 = true ∧ busy.dma.len = 0 ∧ ¬ (193 : Fin 262).val = 192) ∧
      ((dmaState 0 0x01).dma.ctrl.getLsbD 0 = true ∧ (dmaState 0 0x01).dma.len ≠ 0 ∧
        (dmaState 0 0x01).dma.queue.valid = false ∧ (dmaState 0 0x01).dma.ctrl.getLsbD 1 = false) ∧
      (dmaState 0 0x03).dma.ctrl.getLsbD 0 = true ∧ (dmaState 0 0x03).dma.ctrl.getLsbD 1 = true := by decide +kernel

/-- The VBlank phase at the lines where its clauses meet. -/
theorem witness_VblankPhase :
    { busy with sched.currentScanline := 191 }.VblankPhase ∧ { busy with sched.currentScanline := 192 }.VblankPhase ∧
      { busy with sched.currentScanline := 193, ppu.vblank := true }.VblankPhase ∧
      { busy with sched.currentScanline := 0, ppu.vblank := true }.VblankPhase := by
  refine ⟨?_, ?_, ?_, ?_⟩ <;> unfold State.VblankPhase <;> decide
theorem witness_DmaOnlyInVblank : busy.VblankPhase ∧ busy.sched.currentScanline.val < 192 := by
  unfold State.VblankPhase; decide
theorem witness_BudgetOfALine :
    busy.params.cpl = 1342329375 / 3933566 ∧ 0 ≤ busy.sched.cpuCycleAccumulator ∧ busy.sched.cpuCycleAccumulator < 1 := by
  decide +kernel
/-- The largest accumulator of 2.3, and zero. -/
theorem witness_BudgetOfALine_ends : (0 : Rat) ≤ 1966738 / 1966783 ∧ (1966738 / 1966783 : Rat) < 1 ∧ (0 : Rat) < 1 := by
  decide +kernel
theorem witness_DebtIsOneOvershoot :
    busy.params.Valid ∧ 0 ≤ busy.sched.cpuCycleAccumulator ∧ (busy.params.maxOvershoot : Rat) ≤ busy.params.cpl ∧
      busy.sched.cpuCycleDebt < busy.params.maxOvershoot := by
  refine ⟨defaults_valid, ?_, ?_, ?_⟩ <;> decide +kernel
theorem witness_VblankLaw : busy.VblankPhase ∧ State.reset.sched.currentScanline = 0 :=
  ⟨witness_DmaOnlyInVblank.1, rfl⟩
/-- The bounds of `CPU_STEP(341)`: 341 and 370. -/
theorem witness_CpuStepContract :
    1 ≤ busy.params.maxOvershoot ∧ 0 < 341 ∧ 341 ≤ 341 ∧ 341 < 341 + busy.params.maxOvershoot ∧
      370 < 341 + busy.params.maxOvershoot := by decide
theorem witness_CpuSliceInProgramOrder : (0 : Nat) < 1 := by decide
/-- A sprite flipped both ways, on its first and its last row; and the entry's column that draws. -/
theorem witness_LowestIndexOpaqueSpriteWins :
    let p := renderPpu [10, 20, 2, 0, 0x71, 0, 0, 0]
    (∀ i ∈ [0], satDy p 10 i < 8) ∧ (∀ i ∈ [0], satDy p 17 i < 8) ∧ satDy p 10 0 = 0 ∧ satDy p 17 0 = 7 ∧
      topSpriteCell p 17 [0] 27 = ⟨true, 3, 1, true⟩ ∧ topSpriteCell p 17 [0] 20 = SpritePixel.clear := by decide +kernel
theorem witness_OverflowLatchPersists :
    exec .scanlineStep busy = .next busy.scanlineStep ∧ busy.ppu.sprOvfLatch = true ∧
      ¬ mayClearLatch busy .scanlineStep := by
  refine ⟨rfl, rfl, ?_⟩
  show ¬ (100 : Fin 262).val = 192
  decide
theorem witness_PushAppendsWhatFits : busy.params.Valid ∧ busy.audio.RingOk busy.params.ringCap :=
  ⟨defaults_valid, busy_ringOk⟩
theorem witness_PopRemovesOldest : busy.params.Valid ∧ busy.audio.RingOk busy.params.ringCap :=
  ⟨defaults_valid, busy_ringOk⟩
theorem witness_ApuAdvanceSchedulesAndPushes : busy.params.Valid ∧ busy.audio.RingOk busy.params.ringCap :=
  ⟨defaults_valid, busy_ringOk⟩
/-- The smallest ring, full, and the ring of the vectors. -/
theorem witness_RingRefinesBoundedQueue :
    2 ≤ 4 ∧ 4 ≤ 2 ^ 32 ∧ (ringState [frame 8, frame 1, frame 2, frame 7] 1 2).audio.RingOk 4 ∧
      (ringState [frame 0, frame 1] 1 0).audio.RingOk 2 :=
  ⟨by decide, by decide, ⟨by decide +kernel, by decide, by decide⟩, ⟨by decide +kernel, by decide, by decide⟩⟩
theorem witness_RateLaw :
    State.reset.params.Valid ∧ State.reset.audio.apuAccum = 0 ∧ ∀ c ∈ [341, 342, 2 ^ 31 - 1], c < 2 ^ 31 :=
  ⟨defaults_valid, rfl, by decide⟩
theorem witness_PopsNeverReachTheCore :
    busy.SameCore { busy with audio.readPos := 4, env.popTape := [], env.audioOut := [1] } ∧
      busy.audio.readPos ≠ 4 := by
  refine ⟨?_, by decide⟩
  constructor <;> rfl

/-- A palette of nine-bit entries, told by its listed bytes. -/
theorem nineBit_of_listed (m : Memory) (h : ∀ c ∈ m, c.1 % 2 = 1 → c.2.toNat ≤ 1) : Memory.NineBit m := by
  intro a ha
  induction m with
  | nil =>
    show (0 : Byte).toNat ≤ 1
    decide
  | cons c t ih =>
    unfold Memory.read
    split
    · rename_i hc
      exact h c List.mem_cons_self (hc ▸ ha)
    · exact ih fun d hd => h d (List.mem_cons_of_mem _ hd)

theorem busy_inv : busy.Inv where
  params := defaults_valid
  sched := ⟨by decide +kernel, by decide +kernel, by decide +kernel⟩
  ppu :=
    { vram := ⟨by decide, by decide⟩
      staged := ⟨by decide, by decide⟩
      stagedNine := nineBit_of_listed _ (by decide)
      activePal := ⟨by decide, by decide⟩
      activeNine := nineBit_of_listed _ (by decide)
      colours := fun e => Vector.getElem_ofFn e.isLt }
  dma := ⟨by decide +kernel, fun _ => by decide⟩
  ring := busy_ringOk
  accum := by decide +kernel
  wram := ⟨by decide, by decide⟩
  rom := by decide +kernel

theorem witness_StepKeepsInvariant : busy.Inv ∧ step busy = .next busy.dropRequest.scanlineStep := ⟨busy_inv, rfl⟩

end Sys2Proof.Tests
end

section
/-! Proofs of the statements of spec/00_scope.md: what one step does with the queue of requests (R6, R98; log entry 5), and
which hook requests are no operation (R114). -/

namespace Sys2Proof.Machine

/-! ## The queue of requests -/

section Queue

variable {s : State} {r : Request} {rest : List Request}

theorem State.nextRequest_of_nil (h : s.env.requests = []) : s.nextRequest = none := by
  simp [State.nextRequest, h]

theorem State.nextRequest_of_cons (h : s.env.requests = r :: rest) : s.nextRequest = some r := by
  simp [State.nextRequest, h]

theorem State.dropRequest_of_cons (h : s.env.requests = r :: rest) :
    s.dropRequest = { s with env.requests := rest } := by
  simp [State.dropRequest, h]

end Queue

/-! ## The three cases of a step -/

section Step

variable {s : State} {r : Request}

theorem step_of_idle (h : s.nextRequest = none) : step s = .next s := by
  simp [step, h]

theorem step_of_decode_ok {i : Instr} (h : s.nextRequest = some r) (hd : decode r = .ok i) :
    step s = exec i s.dropRequest := by
  simp [step, h, hd]

theorem step_of_decode_error {e : DecodeError} (h : s.nextRequest = some r) (hd : decode r = .error e) :
    step s = .refused (.undecodable e) := by
  simp [step, h, hd]

end Step

/-! ## Hook identifiers outside R114 -/

theorem decodeHookOp_reserved {op : Byte} (args : List Byte) (h : op = 0 ∨ 0x17 < op.toNat) :
    decodeHookOp op args = .error (.reservedHook op) := by
  obtain rfl | hop := h
  · rfl
  · unfold decodeHookOp
    split
    case h_24 => rfl
    all_goals omega

theorem decode_hook_of_error {bytes : List Byte} {e : DecodeError} (h : decodeHook bytes = .error e) :
    decode (.hook bytes) = .error e := by
  simp [decode, h]

/-! ## The obligations -/

/-- Settles O1: the head of the queue is the next request, and dropping it leaves the tail. -/
theorem stepRunsDecodedRequest : Obligations.StepRunsDecodedRequest := by
  intro s r rest i hq hd
  calc step s
      _ = exec i s.dropRequest := step_of_decode_ok (State.nextRequest_of_cons hq) hd
      _ = exec i { s with env.requests := rest } := by rw [State.dropRequest_of_cons hq]

/-- Settles O2: the idle step, the undecodable request, and the identifiers below 0x01 and above 0x17. -/
theorem idleStepAndUndecodableRequest : Obligations.IdleStepAndUndecodableRequest := by
  refine ⟨?idle, ?undecodable, ?reserved⟩
  case idle =>
    intro s hq
    exact step_of_idle (State.nextRequest_of_nil hq)
  case undecodable =>
    intro s r rest e hq hd
    exact step_of_decode_error (State.nextRequest_of_cons hq) hd
  case reserved =>
    intro op args hop
    exact decode_hook_of_error (decodeHookOp_reserved args hop)

end Sys2Proof.Machine
end

section
/-! The row of the opcode table that a direction and a port select, and what its operations encode to
(spec/30_encoding.md R110, R113). -/

namespace Sys2Proof

/-- The direction bit of a packed transaction (R110). -/
@[simp] theorem ioWord_isWrite (d : Bool) (p v : Byte) : (ioWord d p v).isWrite = d := by
  unfold ioWord IoWord.isWrite
  rw [BitVec.getLsbD_append, BitVec.getLsbD_append]
  cases d <;> rfl

/-! ## The selected row -/

theorem betterRow_cases (best : Option IoRow) (r : IoRow) : betterRow best r = some r ∨ betterRow best r = best := by
  unfold betterRow
  split
  · exact .inl rfl
  · split
    · exact .inl rfl
    · exact .inr rfl

theorem mem_of_foldl_betterRow {w : IoWord} {r : IoRow} (rows : List IoRow) : ∀ best : Option IoRow,
    rows.foldl (fun best q => if w &&& q.mask = q.pattern then betterRow best q else best) best = some r →
      r ∈ rows ∨ best = some r := by
  induction rows with
  | nil => exact fun best h => .inr h
  | cons q rows ih =>
    intro best h
    obtain hmem | hbest := ih _ h
    · exact .inl (List.mem_cons_of_mem q hmem)
    · dsimp only at hbest
      split at hbest
      · obtain hq | hq := betterRow_cases best q
        · exact .inl (by simp [Option.some.inj (hq.symm.trans hbest)])
        · exact .inr (hq.symm.trans hbest)
      · exact .inr hbest

theorem mem_of_selectRow {w : IoWord} {rows : List IoRow} {r : IoRow} (h : selectRow w rows = some r) : r ∈ rows := by
  simpa using mem_of_foldl_betterRow rows none h

/-- The pairs of direction and port a row is for: its own, the APU's ports, or the ports no other row has (R191 to
R194). -/
def IoRow.covers (r : IoRow) (d : Bool) (p : Byte) : Bool :=
  (ioWord d p 0 &&& r.mask == r.pattern) &&
    (r.mask == 0x1FF00 || (r.mask == 0x1E000 && apuPort p) || (r.mask == 0x10000 && unmappedPort p))

/-- Each of the 512 pairs selects a row that is for it. -/
theorem rowOf_covers : ∀ (d : Bool) (p : Byte), (rowOf (BitVec.ofBool d ++ p)).any (·.covers d p) = true := by
  decide +kernel

/-! ## What a row's operations encode to -/

/-- Every operation the row builds for a pair it covers encodes to that pair's transaction, a read with no operand. -/
def IoRow.Encodes (r : IoRow) : Prop :=
  ∀ (d : Bool) (p v : Byte), r.covers d p = true →
    (r.build p v).wellFormed = true ∧ encode (r.build p v) = .io (ioWord d p (if d then v else 0))

theorem ioWord_and_dirPortMask : ∀ (d : Bool) (p : Byte), ioWord d p 0 &&& 0x1FF00 = ioWord d p 0 := by
  decide +kernel

/-- A row of one port. -/
theorem IoRow.encodes_of_port {r : IoRow} (hm : r.mask = 0x1FF00)
    (h : ∀ v, (r.build r.pattern.port v).wellFormed = true ∧
      encode (r.build r.pattern.port v) =
        .io (ioWord r.pattern.isWrite r.pattern.port (if r.pattern.isWrite then v else 0))) : r.Encodes := by
  intro d p v hc
  simp only [IoRow.covers, hm, ioWord_and_dirPortMask, Bool.and_eq_true, beq_iff_eq] at hc
  simpa [← hc.1] using h v

/-- A row of many ports in one direction, whose operations carry the port. -/
theorem IoRow.encodes_of_range {r : IoRow} (d : Bool) (hd : ∀ p, r.covers (!d) p = false)
    (h : ∀ p v, r.covers d p = true →
      (r.build p v).wellFormed = true ∧ encode (r.build p v) = .io (ioWord d p (if d then v else 0))) :
    r.Encodes := by
  intro d' p v hc
  obtain rfl | rfl : d' = d ∨ d' = !d := by cases d <;> cases d' <;> simp
  · exact h p v hc
  · exact absurd hc (by simp [hd p])

theorem ppuRows_encode : ∀ r ∈ ppuRows, r.Encodes := by
  simp only [ppuRows, List.forall_mem_cons, List.not_mem_nil, false_implies, implies_true, and_true]
  repeat' apply And.intro
  all_goals exact IoRow.encodes_of_port rfl fun _ => ⟨rfl, rfl⟩

theorem dmaRows_encode : ∀ r ∈ dmaRows, r.Encodes := by
  simp only [dmaRows, List.forall_mem_cons, List.not_mem_nil, false_implies, implies_true, and_true]
  repeat' apply And.intro
  all_goals exact IoRow.encodes_of_port rfl fun _ => ⟨rfl, rfl⟩

theorem busRows_encode : ∀ r ∈ busRows, r.Encodes := by
  simp only [busRows, List.forall_mem_cons, List.not_mem_nil, false_implies, implies_true, and_true]
  refine ⟨IoRow.encodes_of_range false (by decide +kernel) fun p v h => ⟨?inApu, rfl⟩,
    IoRow.encodes_of_range true (by decide +kernel) fun p v h => ⟨?outApu, rfl⟩,
    ?_, ?_, ?_, ?_, ?_, ?_, ?_, ?_, ?_, ?_,
    IoRow.encodes_of_range false (by decide +kernel) fun p v h => ⟨?inUnmapped, rfl⟩,
    IoRow.encodes_of_range true (by decide +kernel) fun p v h => ⟨?outUnmapped, rfl⟩⟩
  case inApu | outApu | inUnmapped | outUnmapped => simp_all [IoRow.covers, Instr.wellFormed]
  all_goals exact IoRow.encodes_of_port rfl fun _ => ⟨rfl, rfl⟩

theorem ioRows_encode : ∀ r ∈ ioRows, r.Encodes :=
  List.forall_mem_append.2 ⟨List.forall_mem_append.2 ⟨ppuRows_encode, dmaRows_encode⟩, busRows_encode⟩

/-- Every transaction decodes to an operation of the table that encodes to it, the data bits of a read apart (R113). -/
theorem exists_decodeIo (d : Bool) (p v : Byte) :
    ∃ i, decodeIo (ioWord d p v) = some i ∧ i.wellFormed = true ∧
      encode i = .io (ioWord d p (if d then v else 0)) := by
  obtain ⟨r, hr, hc⟩ := (Option.any_eq_true _ _).1 (rowOf_covers d p)
  refine ⟨r.build p v, ?_, ioRows_encode r (mem_of_selectRow hr) d p v hc⟩
  rw [decodeIo_ioWord, hr, Option.map_some]

end Sys2Proof
end

section
/-! Proofs of the statements of spec/10_state.md: first the operations of format IO (spec/42_bus_io.md R190 to R196). -/

namespace Sys2Proof.Machine

/-! ## What a port write and a port read change -/

section Ports

variable (s : State) (p v : Byte)

/-- Only PAL_DATA reaches the staged palette (R270). -/
theorem State.ioWrite_stagedPal :
    (s.ioWrite p v).ppu.stagedPal = if p = 0x1F then (s.writePalData v).ppu.stagedPal else s.ppu.stagedPal := by
  unfold State.ioWrite
  split
  case h_22 => split <;> simp_all [← BitVec.toNat_inj]
  all_goals simp_all [← BitVec.toNat_inj]

/-- Only DMA CTRL changes its byte, and BUSY is discarded (R217). -/
theorem State.ioWrite_dmaCtrl : (s.ioWrite p v).dma.ctrl = if p = 0x36 then withoutBusy v else s.dma.ctrl := by
  unfold State.ioWrite
  split
  case h_22 => split <;> simp_all [← BitVec.toNat_inj]
  all_goals simp_all [← BitVec.toNat_inj]

/-- Only the acknowledge port changes the pending mask (R175). -/
theorem State.ioWrite_pending :
    (s.ioWrite p v).irq.pending = if p = 0x82 then clearBits s.irq.pending v else s.irq.pending := by
  unfold State.ioWrite
  split
  case h_22 => split <;> simp_all [← BitVec.toNat_inj]
  all_goals simp_all [← BitVec.toNat_inj]

/-- No port reaches work RAM (R83). -/
@[simp] theorem State.ioWrite_wram : (s.ioWrite p v).wram = s.wram := by
  unfold State.ioWrite
  split
  case h_22 => split <;> rfl
  all_goals rfl

/-- A port read changes nothing but PAL_ADDR and the count of the APU's bytes (R94, R194). -/
theorem State.ioReadEffect_cases :
    s.ioReadEffect p = s.bumpPalAddr ∨ s.ioReadEffect p = s.apuReadDrawn ∨ s.ioReadEffect p = s := by
  unfold State.ioReadEffect
  split
  · simp
  · split <;> simp

/-- What the CPU saw before is kept by the read's effect. -/
theorem State.ioReadEffect_cpuSeen : (s.ioReadEffect p).env.cpuSeen = s.env.cpuSeen := by
  obtain h | h | h := s.ioReadEffect_cases p <;> rw [h] <;> rfl

end Ports

/-! ## The ports that many rows share (R191 to R194) -/

section PortRanges

variable {s : State} {p : Byte}

theorem apuPort_range (h : apuPort p = true) : 0x60 ≤ p.toNat ∧ p.toNat ≤ 0x7D := by
  simpa [apuPort] using h

/-- No unmapped port is the APU's. -/
theorem apuPort_of_unmapped (h : unmappedPort p = true) : apuPort p = false := by
  revert p; decide

theorem State.ioWrite_of_apuPort (h : apuPort p = true) (v : Byte) : s.ioWrite p v = s.apuWrite p v := by
  have := apuPort_range h
  unfold State.ioWrite
  split
  case h_22 => exact if_pos h
  all_goals omega

theorem State.ioWrite_of_unmapped (h : unmappedPort p = true) (v : Byte) : s.ioWrite p v = s := by
  unfold State.ioWrite
  split
  case h_22 => simp [apuPort_of_unmapped h]
  all_goals simp_all [unmappedPort]

theorem State.ioReadByte_of_apuPort (h : apuPort p = true) : s.ioReadByte p = s.apuByte p := by
  have := apuPort_range h
  unfold State.ioReadByte
  split
  case h_24 => exact if_pos h
  all_goals omega

theorem State.ioReadByte_of_unmapped (h : unmappedPort p = true) : s.ioReadByte p = 0xFF := by
  unfold State.ioReadByte
  split
  case h_24 => simp [apuPort_of_unmapped h]
  all_goals simp_all [unmappedPort]

theorem State.ioReadEffect_of_apuPort (h : apuPort p = true) : s.ioReadEffect p = s.apuReadDrawn := by
  have hp : p ≠ 0x1F := by rintro rfl; exact absurd h (by decide)
  rw [State.ioReadEffect, if_neg hp, if_pos h]

theorem State.ioReadEffect_of_unmapped (h : unmappedPort p = true) : s.ioReadEffect p = s := by
  have hp : p ≠ 0x1F := by rintro rfl; exact absurd h (by decide)
  rw [State.ioReadEffect, if_neg hp, apuPort_of_unmapped h]
  rfl

end PortRanges

/-! ## What an operation of format IO does (R59, R110) -/

/-- The IO map's meaning of a packed transaction. -/
def State.transact (s : State) (w : IoWord) : State :=
  if w.isWrite then s.ioWrite w.port w.data else (s.ioReadEffect w.port).answerByte (s.ioReadByte w.port)

theorem State.transact_write (s : State) (p v : Byte) : s.transact (ioWord true p v) = s.ioWrite p v := by
  simp [State.transact]

theorem State.transact_read (s : State) (p v : Byte) :
    s.transact (ioWord false p v) = (s.ioReadEffect p).answerByte (s.ioReadByte p) := by
  simp [State.transact]

/-- An operation of format IO does what the IO map says of its transaction. -/
theorem exec_of_encode_io {i : Instr} {w : IoWord} (hi : encode i = .io w) (hwf : i.wellFormed = true) (s : State) :
    exec i s = .next (s.transact w) := by
  cases i with
  | inApu port =>
    cases hi
    rw [State.transact_read, State.ioReadEffect_of_apuPort hwf, State.ioReadByte_of_apuPort hwf]
    rfl
  | outApu port v =>
    cases hi
    rw [State.transact_write, State.ioWrite_of_apuPort hwf]
    rfl
  | inUnmapped port =>
    cases hi
    rw [State.transact_read, State.ioReadEffect_of_unmapped hwf, State.ioReadByte_of_unmapped hwf]
    rfl
  | outUnmapped port v =>
    cases hi
    rw [State.transact_write, State.ioWrite_of_unmapped hwf]
    rfl
  | inVdpStatus | inVdpCtrl | inScrollAX | inScrollAY | inScrollBX | inScrollBY | inTmapABase | inTmapBBase | inPatBase
  | inPalAddr | inPalData | inSprCtrl | inSatBase | inSprStatus | inDmaSrcLo | inDmaSrcHi | inDmaDstLo | inDmaDstHi
  | inDmaLenLo | inDmaLenHi | inDmaCtrl | inUnmapped7e | inUnmapped7f | inIrqStatus | inIrqEnable | inIrqAck =>
    cases hi
    rw [State.transact_read]
    rfl
  | outVdpStatus | outVdpCtrl | outScrollAX | outScrollAY | outScrollBX | outScrollBY | outTmapABase | outTmapBBase
  | outPatBase | outPalAddr | outPalData | outSprCtrl | outSatBase | outSprStatus | outDmaSrcLo | outDmaSrcHi
  | outDmaDstLo | outDmaDstHi | outDmaLenLo | outDmaLenHi | outDmaCtrl | outUnmapped7e | outUnmapped7f | outIrqStatus
  | outIrqEnable | outIrqAck =>
    cases hi
    rw [State.transact_write]
    rfl
  | _ => nomatch hi

theorem State.SameBlock.refl (s : State) : s.SameBlock s := by constructor <;> rfl

theorem State.answer_sameBlock (s : State) (r : Reply) : s.SameBlock (s.answer r) := by constructor <;> rfl

/-- A row that carries a port is answered by the agents alone, whatever port it carries: no block state changes. -/
theorem exec_of_not_wellFormed {i : Instr} (h : i.wellFormed = false) (s : State) :
    ∃ t, exec i s = .next t ∧ s.SameBlock t := by
  cases i with
  | inApu port => exact ⟨_, rfl, by constructor <;> rfl⟩
  | outApu port v => exact ⟨_, rfl, by constructor <;> rfl⟩
  | inUnmapped port => exact ⟨_, rfl, s.answer_sameBlock _⟩
  | outUnmapped port v => exact ⟨_, rfl, .refl s⟩
  | _ => nomatch h

/-- Settles O7: the row of a pair encodes to it, and what encodes to a transaction does what the IO map says of it. -/
theorem busMapAgreesWithTable : Obligations.BusMapAgreesWithTable := by
  intro s p v addr
  refine ⟨?write, ?read, rfl, ?input⟩
  case write =>
    obtain ⟨i, hd, hwf, he⟩ := exists_decodeIo true p v
    exact ⟨i, hd, by rw [exec_of_encode_io he hwf, State.transact_write]; rfl⟩
  case read =>
    obtain ⟨i, hd, hwf, he⟩ := exists_decodeIo false p v
    exact ⟨i, hd, by rw [exec_of_encode_io he hwf, State.transact_read]; rfl⟩
  case input =>
    rw [← s.ioReadEffect_cpuSeen]
    rfl

end Sys2Proof.Machine
end

section
/-! The ring as a queue (spec/46_audio_ring.md R343, R344, R346): its fill, its positions and its slots after a push and
after a pop, and what either does to the frames it holds. -/

namespace Sys2Proof.Machine

/-! ## Positions modulo the capacity -/

/-- Two offsets below the capacity that reach the same slot are the same. -/
theorem offset_eq_of_slot_eq {cap pos i j : Nat} (hi : i < cap) (hj : j < cap) (h : (pos + i) % cap = (pos + j) % cap) :
    i = j :=
  Nat.ModEq.eq_of_lt_of_lt (Nat.ModEq.add_left_cancel' pos h) hi hj

/-- A frame written by `writeSlots` stands in its slot, where no frame comes round to another's. -/
theorem writeSlots_written {cap : Nat} (frames : List Frame) : ∀ (pos : Nat) (ring : List Frame) (j : Nat)
    (hj : j < frames.length), frames.length ≤ cap → ring.length = cap →
      (writeSlots cap frames pos ring)[(pos + j) % cap]? = some frames[j] := by
  induction frames with
  | nil => exact fun _ _ _ hj => absurd hj (Nat.not_lt_zero _)
  | cons f t ih =>
    intro pos ring j hj hlen hring
    rw [List.length_cons] at hj hlen
    rw [writeSlots]
    cases j with
    | zero =>
      rw [writeSlots_other]
      · have hpos : pos % cap < ring.length := hring ▸ Nat.mod_lt pos (by omega)
        simp [hpos]
      · intro j hj h
        rw [Nat.add_assoc] at h
        have := offset_eq_of_slot_eq (by omega) (by omega) h
        omega
    | succ j =>
      have hset := ih (pos + 1) (ring.set (pos % cap) f) j (by omega) (by omega) (by rw [List.length_set, hring])
      rwa [Nat.add_right_comm, Nat.add_assoc] at hset

section Ring

variable {a : Audio} {cap : Nat}

/-! ## The fill (R346) -/

theorem Audio.fill_lt (hcap : 0 < cap) : a.fill cap < cap := by
  have := Int.emod_lt_of_pos ((a.writePos.toNat : Int) - a.readPos.toNat) (Int.natCast_pos.2 hcap)
  unfold Audio.fill
  omega

/-- The fill, as a number. -/
theorem Audio.fill_cast (hcap : 0 < cap) :
    (a.fill cap : Int) = ((a.writePos.toNat : Int) - a.readPos.toNat) % cap :=
  Int.toNat_of_nonneg (Int.emod_nonneg _ (by omega))

/-- The write position is the read position moved on by the fill. -/
theorem Audio.RingOk.readPos_add_fill (h : a.RingOk cap) : (a.readPos.toNat + a.fill cap) % cap = a.writePos.toNat := by
  have hcap : 0 < cap := Nat.zero_lt_of_lt h.writeIn
  have hw : (a.writePos.toNat : Int) % cap = a.writePos.toNat :=
    Int.emod_eq_of_lt (by omega) (by exact_mod_cast h.writeIn)
  zify
  rw [Audio.fill_cast hcap, Int.add_emod_emod, add_sub_cancel, hw]

/-- The fill is the only number below the capacity that takes the read position to the write position. -/
theorem Audio.fill_eq {f : Nat} (hf : f < cap) (h : (a.readPos.toNat + f) % cap = a.writePos.toNat) :
    a.fill cap = f := by
  have hcap : 0 < cap := Nat.zero_lt_of_lt hf
  zify at h ⊢
  rw [Audio.fill_cast hcap, ← h, Int.emod_sub_emod, add_sub_cancel_left]
  exact Int.emod_eq_of_lt (by omega) (by exact_mod_cast hf)

theorem Audio.contents_length : (a.contents cap).length = a.fill cap := by
  simp [Audio.contents]

/-! ## A push (R343) -/

theorem Audio.pushCount_lt (hcap : 0 < cap) (count : Nat) : a.fill cap + a.pushCount cap count < cap := by
  have := Audio.fill_lt (a := a) hcap
  unfold Audio.pushCount Audio.free
  omega

theorem Audio.push_writePos (hcap : 0 < cap) (hu : cap ≤ 2 ^ 32) (frames : List Frame) :
    (a.push cap frames).writePos.toNat = (a.writePos.toNat + a.pushCount cap frames.length) % cap := by
  have := Nat.mod_lt (a.writePos.toNat + a.pushCount cap frames.length) hcap
  exact (BitVec.toNat_ofNat _ _).trans (Nat.mod_eq_of_lt (by omega))

theorem Audio.push_ring_length (frames : List Frame) : (a.push cap frames).ring.length = a.ring.length :=
  writeSlots_length _ _ _ _

theorem Audio.RingOk.push (h : a.RingOk cap) (hu : cap ≤ 2 ^ 32) (frames : List Frame) :
    (a.push cap frames).RingOk cap where
  slots := (Audio.push_ring_length frames).trans h.slots
  writeIn := by
    have hcap : 0 < cap := Nat.zero_lt_of_lt h.writeIn
    rw [Audio.push_writePos hcap hu]
    exact Nat.mod_lt _ hcap
  readIn := h.readIn

/-- A push fills the ring by what it wrote. -/
theorem Audio.RingOk.fill_push (h : a.RingOk cap) (hu : cap ≤ 2 ^ 32) (frames : List Frame) :
    (a.push cap frames).fill cap = a.fill cap + a.pushCount cap frames.length := by
  have hcap : 0 < cap := Nat.zero_lt_of_lt h.writeIn
  refine Audio.fill_eq (Audio.pushCount_lt hcap _) ?_
  rw [Audio.push_writePos hcap hu, ← h.readPos_add_fill, Nat.mod_add_mod, Nat.add_assoc]
  rfl

/-- A push leaves every slot but those from the write position on that it wrote. -/
theorem Audio.push_ring_other (frames : List Frame) {slot : Nat}
    (h : ∀ j, j < a.pushCount cap frames.length → slot ≠ (a.writePos.toNat + j) % cap) :
    (a.push cap frames).ring[slot]? = a.ring[slot]? := by
  refine writeSlots_other _ _ _ _ _ fun j hj => h j ?_
  rw [List.length_take] at hj
  omega

/-- A push leaves the frames that wait. -/
theorem Audio.RingOk.slot_push_old (h : a.RingOk cap) (frames : List Frame) {i : Nat} (hi : i < a.fill cap) :
    (a.push cap frames).slot cap (a.readPos.toNat + i) = a.slot cap (a.readPos.toNat + i) := by
  have hcap : 0 < cap := Nat.zero_lt_of_lt h.writeIn
  have hk := Audio.pushCount_lt (a := a) hcap frames.length
  have hother : ∀ j, j < a.pushCount cap frames.length →
      (a.readPos.toNat + i) % cap ≠ (a.writePos.toNat + j) % cap := by
    intro j hj hslot
    rw [← h.readPos_add_fill, Nat.mod_add_mod, Nat.add_assoc] at hslot
    have := offset_eq_of_slot_eq (by omega) (by omega) hslot
    omega
  simp only [Audio.slot, List.getD_eq_getElem?_getD, Audio.push_ring_other frames hother]

/-- A push writes its first frames behind those that wait. -/
theorem Audio.RingOk.slot_push_new (h : a.RingOk cap) (frames : List Frame) {j : Nat}
    (hj : j < a.pushCount cap frames.length) (hf : j < frames.length) :
    (a.push cap frames).slot cap (a.readPos.toNat + (a.fill cap + j)) = frames[j] := by
  have hcap : 0 < cap := Nat.zero_lt_of_lt h.writeIn
  have hk := Audio.pushCount_lt (a := a) hcap frames.length
  have hslot : (a.readPos.toNat + (a.fill cap + j)) % cap = (a.writePos.toNat + j) % cap := by
    rw [← h.readPos_add_fill, Nat.mod_add_mod, Nat.add_assoc]
  have htake : j < (frames.take (a.pushCount cap frames.length)).length := by
    rw [List.length_take]
    omega
  have hwritten := writeSlots_written (cap := cap) _ a.writePos.toNat a.ring j htake
    (by rw [List.length_take]; omega) h.slots
  simp only [Audio.slot, List.getD_eq_getElem?_getD, hslot]
  simp only [Audio.push, hwritten, Option.getD_some, List.getElem_take]

/-- A push appends the first frames that fit to what the ring holds. -/
theorem Audio.RingOk.contents_push (h : a.RingOk cap) (hu : cap ≤ 2 ^ 32) (frames : List Frame) :
    (a.push cap frames).contents cap = a.contents cap ++ frames.take (a.pushCount cap frames.length) := by
  unfold Audio.contents
  rw [h.fill_push hu, List.range_add, List.map_append, List.map_map]
  congr 1
  · exact List.map_congr_left fun i hi => h.slot_push_old frames (List.mem_range.1 hi)
  · have hle : a.pushCount cap frames.length ≤ frames.length := Nat.min_le_left _ _
    refine List.ext_getElem (by simpa using hle) fun j hj _ => ?_
    have hjk : j < a.pushCount cap frames.length := by simpa using hj
    simp only [List.getElem_map, List.getElem_range, Function.comp_apply, List.getElem_take]
    exact h.slot_push_new frames hjk (by omega)

/-! ## A pop (R344) -/

theorem Audio.popCount_le_fill (n : Nat) : a.popCount cap n ≤ a.fill cap := Nat.min_le_right _ _

theorem Audio.pop_readPos (hcap : 0 < cap) (hu : cap ≤ 2 ^ 32) (n : Nat) :
    (a.pop cap n).readPos.toNat = (a.readPos.toNat + a.popCount cap n) % cap := by
  have := Nat.mod_lt (a.readPos.toNat + a.popCount cap n) hcap
  exact (BitVec.toNat_ofNat _ _).trans (Nat.mod_eq_of_lt (by omega))

theorem Audio.RingOk.pop (h : a.RingOk cap) (hu : cap ≤ 2 ^ 32) (n : Nat) : (a.pop cap n).RingOk cap where
  slots := h.slots
  writeIn := h.writeIn
  readIn := by
    have hcap : 0 < cap := Nat.zero_lt_of_lt h.writeIn
    rw [Audio.pop_readPos hcap hu]
    exact Nat.mod_lt _ hcap

/-- A pop empties the ring by what it delivered. -/
theorem Audio.RingOk.fill_pop (h : a.RingOk cap) (hu : cap ≤ 2 ^ 32) (n : Nat) :
    (a.pop cap n).fill cap = a.fill cap - a.popCount cap n := by
  have hcap : 0 < cap := Nat.zero_lt_of_lt h.writeIn
  have hfill := Audio.fill_lt (a := a) hcap
  have hle := Audio.popCount_le_fill (a := a) (cap := cap) n
  refine Audio.fill_eq (by omega) ?_
  rw [Audio.pop_readPos hcap hu, Nat.mod_add_mod, Nat.add_assoc, Nat.add_sub_cancel' hle]
  exact h.readPos_add_fill

/-- A pop takes the oldest frames. -/
theorem Audio.RingOk.contents_pop (h : a.RingOk cap) (hu : cap ≤ 2 ^ 32) (n : Nat) :
    (a.pop cap n).contents cap = (a.contents cap).drop (a.popCount cap n) := by
  have hcap : 0 < cap := Nat.zero_lt_of_lt h.writeIn
  refine List.ext_getElem (by simp [Audio.contents, h.fill_pop hu]) fun j _ _ => ?_
  simp only [Audio.contents, List.getElem_map, List.getElem_range, List.getElem_drop, Audio.slot,
    Audio.pop_readPos hcap hu, Nat.mod_add_mod, Nat.add_assoc]
  rfl

/-- The consumer's buffer holds the oldest frames, left sample first, and zeros after them. -/
theorem Audio.popBuffer_eq (n : Nat) :
    a.popBuffer cap n = (((a.contents cap).take (a.popCount cap n)).flatMap fun f => [f.l, f.r]) ++
      List.replicate (2 * (n - a.popCount cap n)) 0 := by
  unfold Audio.popBuffer Audio.contents
  rw [← List.map_take, List.take_range, Nat.min_eq_left (Audio.popCount_le_fill n), List.flatMap_map]

end Ring

/-! ## The obligations -/

/-- Settles O50, from what a push does to the slots and to the positions. -/
theorem pushAppendsWhatFits : Obligations.PushAppendsWhatFits := by
  intro s frames hv h
  have hcap : 0 < s.params.ringCap := Nat.zero_lt_of_lt h.writeIn
  exact ⟨_, s.audio.pushCount s.params.ringCap frames.length, rfl, rfl, h.contents_push hv.cap_u32 frames,
    Audio.push_ring_length frames, fun _ => Audio.push_ring_other frames,
    Audio.push_writePos hcap hv.cap_u32 frames, rfl⟩

/-- Settles O51, from what a pop does to the read position and to the consumer's buffer. -/
theorem popRemovesOldest : Obligations.PopRemovesOldest := by
  intro s n hv h
  have hcap : 0 < s.params.ringCap := Nat.zero_lt_of_lt h.writeIn
  have hunder : (s.audio.pop s.params.ringCap n).ringUnderruns =
      s.audio.ringUnderruns + (if s.audio.popCount s.params.ringCap n < n then 1 else 0) := by
    unfold Audio.pop
    dsimp only
    split <;> rfl
  refine ⟨_, s.audio.popCount s.params.ringCap n, rfl, rfl, h.contents_pop hv.cap_u32 n,
    Audio.pop_readPos hcap hv.cap_u32 n, Audio.popBuffer_eq n, ?_⟩
  rw [← hunder]
  rfl

end Sys2Proof.Machine
end

section
/-! The invariant of a step (spec/60_exceptions.md R362): each part of the model's operations keeps it, so every
operation does. -/

namespace Sys2Proof.Machine

/-! ## Memories -/

section Memories

variable {m : Memory} {a size : Nat}

theorem Memory.Sound.nil (size : Nat) : Memory.Sound [] size := ⟨Memory.nil_wf, by simp⟩

theorem Memory.Sound.write (h : Memory.Sound m size) (ha : a < size) (v : Byte) :
    Memory.Sound (Memory.write m a v) size :=
  ⟨Memory.write_wf a v h.wf, Memory.write_below v h.below ha⟩

theorem Memory.NineBit.nil : Memory.NineBit [] := fun _ _ => by simp [Memory.unlisted]

theorem Memory.NineBit.write (h : Memory.NineBit m) {v : Byte} (hv : a % 2 = 1 → v.toNat ≤ 1) :
    Memory.NineBit (Memory.write m a v) := by
  intro b hb
  rw [Memory.read_write]
  split
  · rename_i hba
    exact hv (hba ▸ hb)
  · exact h b hb

/-- An odd palette byte keeps bit 0 only (R87). -/
theorem palMask_le_one (v : Byte) {a : Byte} (h : a.toNat % 2 = 1) : (palMask a v).toNat ≤ 1 := by
  have ha : a.getLsbD 0 = true := by simpa [BitVec.getLsbD, Nat.testBit_zero] using h
  simp only [palMask, ha, if_true, BitVec.toNat_and]
  exact Nat.and_le_right

end Memories

/-! ## The PPU -/

section PpuInv

variable {p q : Ppu}

/-- The invariant speaks of the memories and the colours only. -/
theorem Ppu.Inv.congr (h : p.Inv) (vram : q.vram = p.vram) (staged : q.stagedPal = p.stagedPal)
    (activePal : q.activePal = p.activePal) (argb : q.activeArgb = p.activeArgb) : q.Inv where
  vram := vram ▸ h.vram
  staged := staged ▸ h.staged
  stagedNine := staged ▸ h.stagedNine
  activePal := activePal ▸ h.activePal
  activeNine := activePal ▸ h.activeNine
  colours := by rw [activePal, argb]; exact h.colours

theorem Ppu.Inv.vramWrite (h : p.Inv) (a : Nat) (v : Byte) :
    Ppu.Inv { p with vram := Memory.write p.vram (a % Config.vramSize) v } :=
  { h with vram := h.vram.write (Nat.mod_lt a (by decide)) v }

theorem Ppu.Inv.palWrite (h : p.Inv) (a v : Byte) :
    Ppu.Inv { p with stagedPal := Memory.write p.stagedPal a.toNat (palMask a v) } :=
  { h with
    staged := h.staged.write a.isLt _
    stagedNine := h.stagedNine.write (palMask_le_one v) }

/-- A commit gives the active palette the staged bytes and their colours (R134). -/
theorem Ppu.Inv.commit (h : p.Inv) :
    Ppu.Inv { p with
      active := p.pending
      activePal := p.stagedPal
      activeArgb := Vector.ofFn fun e => argb p.stagedPal e } :=
  { h with
    activePal := h.staged
    activeNine := h.stagedNine
    colours := fun e => Vector.getElem_ofFn e.isLt }

theorem argb_nil (e : Nat) : argb [] e = 0xFF000000 := by
  rw [argb, Memory.read_nil, Memory.read_nil]
  decide

/-- The reset values, whatever the framebuffer shows (R390). -/
theorem Ppu.Inv.reset (fb : Framebuffer) : Ppu.Inv { Ppu.reset with fb := fb } where
  vram := .nil _
  staged := .nil _
  stagedNine := .nil
  activePal := .nil _
  activeNine := .nil
  colours := fun e => (Vector.getElem_replicate e.isLt).trans (argb_nil e).symm

end PpuInv

/-! ## The audio timebase (R340, R342) -/

/-- A legal sample rate has a sample length that is not 0, so the loop of R342 ends. -/
theorem cyclesPerSampleFp_pos {p : Config.Params} (h : p.Valid) : 0 < cyclesPerSampleFp p.sampleRate := by
  have hpos : (0 : Rat) < p.sampleRate := by exact_mod_cast h.rate_pos
  have hle := h.rate_bound
  have hone : 1 ≤ Config.cpuHz / p.sampleRate * 2 ^ 32 := by
    rw [div_mul_eq_mul_div, le_div_iff₀ hpos]
    norm_num [Config.cpuHz, Config.masterHz]
    omega
  have hfloor : 1 ≤ (Config.cpuHz / p.sampleRate * 2 ^ 32 + 1 / 2).floor :=
    Rat.le_floor_iff.2 (by push_cast; linarith)
  unfold cyclesPerSampleFp
  omega

section StateInv

variable {s t : State}

/-! ## Operations that reach few parts of the state -/

/-- The invariant does not speak of the agents' interface. -/
theorem State.Inv.of_sameBlock (h : s.Inv) (b : s.SameBlock t) : t.Inv where
  params := b.params ▸ h.params
  sched := b.sched ▸ h.sched
  ppu := b.ppu ▸ h.ppu
  dma := b.dma ▸ h.dma
  ring := b.params ▸ b.audio ▸ h.ring
  accum := b.params ▸ b.audio ▸ h.accum
  wram := b.wram ▸ h.wram
  rom := b.rom ▸ h.rom

/-- Of what the invariant speaks of, the CPU reaches the staged palette, DMA CTRL and work RAM only. -/
theorem State.Inv.of_cpuFrame (h : s.Inv) (f : s.CpuFrame t) (staged : Memory.Sound t.ppu.stagedPal 256)
    (nine : Memory.NineBit t.ppu.stagedPal) (busy : t.dma.ctrl.getLsbD 7 = false)
    (wram : Memory.Sound t.wram Config.wramSize) : t.Inv where
  params := f.params ▸ h.params
  sched := f.sched ▸ h.sched
  ppu :=
    { vram := f.vram ▸ h.ppu.vram
      staged := staged
      stagedNine := nine
      activePal := f.activePal ▸ h.ppu.activePal
      activeNine := f.activePal ▸ h.ppu.activeNine
      colours := by rw [f.activePal, f.activeArgb]; exact h.ppu.colours }
  dma := ⟨busy, f.queue ▸ h.dma.queued⟩
  ring := f.params ▸ f.audio ▸ h.ring
  accum := f.params ▸ f.audio ▸ h.accum
  wram := wram
  rom := f.rom ▸ h.rom

theorem State.Inv.answer (h : s.Inv) (r : Reply) : (s.answer r).Inv := h.of_sameBlock (s.answer_sameBlock r)

theorem State.Inv.dropRequest (h : s.Inv) : s.dropRequest.Inv := h.of_sameBlock (by constructor <;> rfl)

/-- The IRQ controller is no part of the invariant. -/
theorem State.Inv.withIrq (h : s.Inv) (irq : Irq) : State.Inv { s with irq := irq } := { h with }

theorem State.Inv.withRom (h : s.Inv) {rom : List Byte} (hlen : rom.length ≤ Config.romMax) :
    State.Inv { s with rom := rom } :=
  { h with rom := hlen }

theorem State.Inv.raise (h : s.Inv) (mask : Byte) : (s.raise mask).Inv := h.withIrq _

theorem State.Inv.raiseIf (h : s.Inv) (c : Bool) (mask : Byte) : (s.raiseIf c mask).Inv := by
  unfold State.raiseIf
  split
  · exact h.raise mask
  · exact h

theorem State.Inv.recompute (h : s.Inv) : s.recompute.Inv := h.withIrq _

/-! ## The CPU's slice (R138) -/

theorem State.Inv.bumpPalAddr (h : s.Inv) : s.bumpPalAddr.Inv :=
  { h with ppu := h.ppu.congr rfl rfl rfl rfl }

theorem State.Inv.writePalData (h : s.Inv) (v : Byte) : (s.writePalData v).Inv :=
  { h with ppu := (h.ppu.palWrite s.ppu.palAddr v).congr rfl rfl rfl rfl }

/-- BUSY is discarded (R217). -/
theorem withoutBusy_busy : ∀ v : Byte, (withoutBusy v).getLsbD 7 = false := by decide

theorem State.Inv.ioWrite (h : s.Inv) (p v : Byte) : (s.ioWrite p v).Inv := by
  refine h.of_cpuFrame (s.ioWrite_frame p v) ?staged ?nine ?busy ?wram
  case staged =>
    rw [State.ioWrite_stagedPal]
    split
    · exact (h.writePalData v).ppu.staged
    · exact h.ppu.staged
  case nine =>
    rw [State.ioWrite_stagedPal]
    split
    · exact (h.writePalData v).ppu.stagedNine
    · exact h.ppu.stagedNine
  case busy =>
    rw [State.ioWrite_dmaCtrl]
    split
    · exact withoutBusy_busy v
    · exact h.dma.busy
  case wram =>
    rw [State.ioWrite_wram]
    exact h.wram

theorem State.Inv.ioReadEffect (h : s.Inv) (p : Byte) : (s.ioReadEffect p).Inv := by
  obtain he | he | he := s.ioReadEffect_cases p <;> rw [he]
  · exact h.bumpPalAddr
  · exact h.of_sameBlock (by constructor <;> rfl)
  · exact h

theorem State.Inv.transact (h : s.Inv) (w : IoWord) : (s.transact w).Inv := by
  unfold State.transact
  split
  · exact h.ioWrite _ _
  · exact (h.ioReadEffect _).answer _

/-- A store reaches work RAM only, at an address below its size (R83). -/
theorem State.Inv.memWrite (h : s.Inv) (a : Half) (v : Byte) : (s.memWrite a v).Inv := by
  unfold State.memWrite
  split
  · have ha : a.toNat - 0xC000 < 16384 := by omega
    exact { h with wram := h.wram.write ha v }
  · exact h

theorem State.Inv.see (h : s.Inv) (x : CpuSeen) : (s.see x).Inv := h.of_sameBlock (by constructor <;> rfl)

theorem State.Inv.cpuAction (h : s.Inv) (a : CpuAction) : (s.cpuAction a).Inv := by
  cases a with
  | input addr => exact (h.ioReadEffect _).see _
  | output addr v => exact h.ioWrite _ _
  | load addr => exact h.see _
  | store addr v => exact h.memWrite _ _
  | sampleInt => exact h.see _

theorem State.Inv.cpuActions (acts : List CpuAction) : ∀ {s : State}, s.Inv → (s.cpuActions acts).Inv := by
  induction acts with
  | nil => exact id
  | cons a acts ih => exact fun h => ih (h.cpuAction a)

theorem State.takeSlice_sameBlock (s : State) : s.SameBlock s.takeSlice := by
  unfold State.takeSlice
  split <;> constructor <;> rfl

theorem State.Inv.runSlice (h : s.Inv) (budget : Nat) : (s.runSlice budget).Inv := by
  have htake := h.of_sameBlock s.takeSlice_sameBlock
  unfold State.runSlice
  split
  · exact htake
  · exact htake.cpuActions _

/-! ## The scheduler (R132, R133, R141) -/

/-- What is left of the accumulator is its fraction (R132). -/
theorem State.Inv.accumulator_fract (h : s.Inv) :
    0 ≤ s.accumulatorPlus - s.rawBudget ∧ s.accumulatorPlus - s.rawBudget < 1 := by
  have hnonneg : 0 ≤ s.accumulatorPlus := add_nonneg h.sched.nonneg h.params.cpl_pos.le
  have hfloor : (s.rawBudget : Rat) = s.accumulatorPlus.floor := by
    have : ((s.accumulatorPlus.floor.toNat : Int)) = s.accumulatorPlus.floor :=
      Int.toNat_of_nonneg (Rat.le_floor_iff.2 (by simpa using hnonneg))
    exact_mod_cast this
  rw [hfloor]
  have hle := Rat.floor_le s.accumulatorPlus
  have hlt := Rat.lt_floor_add_one s.accumulatorPlus
  push_cast at hlt
  constructor <;> linarith

theorem State.Inv.takeBudget (h : s.Inv) : s.takeBudget.Inv :=
  { h with
    sched :=
      { nonneg := h.accumulator_fract.1
        below := h.accumulator_fract.2
        log := List.length_take_le _ _ } }

theorem State.Inv.commit (h : s.Inv) : s.commit.Inv := { h with ppu := h.ppu.commit }

theorem State.Inv.startVblankAt (h : s.Inv) (n : Fin 262) : (s.startVblankAt n).Inv := by
  unfold State.startVblankAt
  split
  · exact { h with ppu := h.ppu.congr rfl rfl rfl rfl, sched := { h.sched with } }
  · exact h

theorem State.Inv.endVblankAt (h : s.Inv) (n : Fin 262) : (s.endVblankAt n).Inv := by
  unfold State.endVblankAt
  split
  · exact { h with ppu := h.ppu.congr rfl rfl rfl rfl }
  · exact h

theorem State.Inv.onScanlineStart (h : s.Inv) (n : Fin 262) : (s.onScanlineStart n).Inv :=
  (((h.commit.startVblankAt n).endVblankAt n).raiseIf _ _).recompute

theorem State.Inv.charge (h : s.Inv) (cycles executed : Nat) : (s.charge cycles executed).Inv :=
  { h with sched := { h.sched with } }

theorem State.Inv.advanceLine (h : s.Inv) : s.advanceLine.Inv := by
  unfold State.advanceLine
  split <;> exact { h with sched := { h.sched with } }

/-! ## Rendering (R300) -/

theorem State.Inv.latchOverflow (h : s.Inv) (overflow : Bool) : (s.latchOverflow overflow).Inv := by
  have hlatch : State.Inv { s with ppu.sprOvfLatch := true } := { h with ppu := h.ppu.congr rfl rfl rfl rfl }
  unfold State.latchOverflow
  split
  · exact hlatch.raiseIf _ _
  · exact h

theorem State.Inv.writeLine (h : s.Inv) (n : Fin 192) (line : Vector Argb 256) : (s.writeLine n line).Inv :=
  { h with ppu := h.ppu.congr rfl rfl rfl rfl }

theorem State.Inv.renderScanline (h : s.Inv) (n : Fin 192) : (s.renderScanline n).Inv := by
  unfold State.renderScanline
  split <;> exact (h.latchOverflow _).writeLine _ _

theorem State.Inv.renderVisible (h : s.Inv) (n : Fin 262) : (s.renderVisible n).Inv := by
  unfold State.renderVisible
  split
  · exact h.renderScanline _
  · exact h

/-! ## The DMA engine (R223, R224) -/

theorem State.Inv.dmaMove (h : s.Inv) (src dst : Half) (pal : Bool) (i : Nat) : (s.dmaMove src dst pal i).Inv := by
  obtain ⟨-, he⟩ | ⟨-, he⟩ := s.dmaMove_cases src dst pal i <;> rw [he]
  · exact { h with ppu := h.ppu.palWrite _ _ }
  · exact { h with ppu := h.ppu.vramWrite _ _ }

theorem State.Inv.dmaCopy (h : s.Inv) (src dst : Half) (pal : Bool) (k : Nat) : (s.dmaCopy src dst pal k).Inv := by
  induction k with
  | zero => exact h
  | succ k ih => exact ih.dmaMove src dst pal k

theorem State.Inv.dmaExecute (h : s.Inv) (src dst len : Half) (pal : Bool) : (s.dmaExecute src dst len pal).Inv :=
  (h.dmaCopy src dst pal _).raiseIf _ _

/-- The slot is empty after its copy (R218). -/
theorem State.Inv.dmaRunQueued (h : s.Inv) : s.dmaRunQueued.Inv :=
  have hrun := h.dmaExecute s.dma.queue.src s.dma.queue.dst s.dma.queue.len s.dma.queue.dstIsPalette
  { hrun with dma := ⟨hrun.dma.busy, nofun⟩ }

theorem State.Inv.dmaRunNow (h : s.Inv) : s.dmaRunNow.Inv :=
  have hrun := h.dmaExecute s.dma.src s.dma.dst s.dma.len (dmaDstIsPalette s.dma.ctrl)
  { hrun with dma := { hrun.dma with } }

theorem clearStart_busy : ∀ ctrl : Byte, (clearStart ctrl).getLsbD 7 = ctrl.getLsbD 7 := by decide

theorem State.Inv.dmaConsumeStart (h : s.Inv) : s.dmaConsumeStart.Inv :=
  { h with dma := { h.dma with busy := (clearStart_busy s.dma.ctrl).trans h.dma.busy } }

/-- Only a request that has something to copy is queued (R219, R221). -/
theorem State.Inv.dmaRequest (h : s.Inv) (vblank : Bool) : (s.dmaRequest vblank).Inv := by
  unfold State.dmaRequest
  split
  · exact h
  · rename_i hlen
    split
    · exact h.dmaRunNow
    · split
      · exact { h with dma := { h.dma with queued := fun _ => hlen } }
      · exact { h with dma := { h.dma with } }

theorem State.Inv.dmaBoundary (h : s.Inv) (n : Fin 262) (vblank : Bool) (frame : Nat) :
    (s.dmaBoundary n vblank frame).Inv := by
  unfold State.dmaBoundary
  split
  · exact h.dmaRunQueued
  · split
    · exact h
    · exact h.dmaConsumeStart.dmaRequest vblank

/-! ## The audio side (R342 to R345) -/

theorem State.Inv.push (h : s.Inv) (frames : List Frame) :
    State.Inv { s with audio := s.audio.push s.params.ringCap frames } :=
  { h with ring := h.ring.push h.params.cap_u32 frames, accum := h.accum }

theorem State.Inv.popFrames (h : s.Inv) (n : Nat) : (s.popFrames n).Inv :=
  { h with ring := h.ring.pop h.params.cap_u32 n, accum := h.accum }

theorem State.Inv.popAll (ns : List Nat) : ∀ {s : State}, s.Inv → (ns.foldl State.popFrames s).Inv := by
  induction ns with
  | nil => exact id
  | cons n ns ih => exact fun h => ih (h.popFrames n)

theorem State.takePops_sameBlock (s : State) : s.SameBlock s.takePops := by
  unfold State.takePops
  split <;> constructor <;> rfl

theorem State.Inv.consumerPops (h : s.Inv) : s.consumerPops.Inv := (h.of_sameBlock s.takePops_sameBlock).popAll _

/-- The accumulator keeps the remainder, which is below one sample (R342). -/
theorem State.Inv.apuSchedule_lt (h : s.Inv) (cycles : Nat) :
    (s.apuSchedule cycles).2 < cyclesPerSampleFp s.params.sampleRate := by
  have hpos := cyclesPerSampleFp_pos h.params
  rw [State.apuSchedule, scheduleFrames_eq hpos _ _ le_rfl]
  exact Nat.mod_lt _ hpos

theorem State.Inv.apuAdvance (h : s.Inv) (cycles : Nat) : (s.apuAdvance cycles).Inv := by
  have hlt := h.apuSchedule_lt cycles
  unfold State.apuAdvance
  generalize s.apuSchedule cycles = r at hlt ⊢
  have hring : Audio.RingOk { s.audio with apuAccum := BitVec.ofNat 64 r.2 } s.params.ringCap := { h.ring with }
  exact
    { h with
      ring := { hring.push h.params.cap_u32 (s.apuDrawn r.1) with }
      accum := by
        refine lt_of_le_of_lt ?_ hlt
        exact (BitVec.toNat_ofNat _ _).trans_le (Nat.mod_le _ _) }

/-! ## Reset and power-on (R390, R391) -/

theorem Audio.ringOk_powerOn {cap : Nat} (hcap : 0 < cap) : (Audio.powerOn cap).RingOk cap where
  slots := List.length_replicate
  writeIn := hcap
  readIn := hcap

/-- `RESET` needs of the state before it only what it leaves. -/
theorem State.Inv.of_reset (params : s.params.Valid) (ring : s.audio.RingOk s.params.ringCap)
    (rom : s.rom.length ≤ Config.romMax) : s.resetBlock.Inv where
  params := params
  sched := ⟨le_rfl, zero_lt_one, Nat.zero_le _⟩
  ppu := Ppu.Inv.reset _
  dma := (⟨by decide, nofun⟩ : Dma.Inv Dma.reset)
  ring := { ring with }
  accum := cyclesPerSampleFp_pos params
  wram := .nil _
  rom := rom

theorem State.Inv.of_powerOn (params : s.params.Valid) (fb : Framebuffer) :
    (State.resetBlock { s with ppu.fb := fb, audio := Audio.powerOn s.params.ringCap, rom := [] }).Inv :=
  have hcap : 0 < s.params.ringCap := lt_of_lt_of_le zero_lt_two params.cap_two
  State.Inv.of_reset (s := { s with ppu.fb := fb, audio := Audio.powerOn s.params.ringCap, rom := [] }) params
    (Audio.ringOk_powerOn hcap) (Nat.zero_le _)

/-! ## The whole step (R131, R140) -/

theorem State.Inv.scanlineStep (h : s.Inv) : s.scanlineStep.Inv :=
  have hran := ((h.takeBudget.onScanlineStart s.sched.currentScanline).runSlice s.lineBudget).charge s.lineBudget
    ((s.takeBudget.onScanlineStart s.sched.currentScanline).executedOf s.lineBudget)
  have hdrawn := (hran.recompute.renderVisible s.sched.currentScanline).dmaBoundary s.sched.currentScanline _ _
  (hdrawn.consumerPops.apuAdvance s.lineBudget).advanceLine

theorem State.Inv.scanlines (h : s.Inv) (k : Nat) : (s.scanlines k).Inv := by
  induction k with
  | zero => exact h
  | succ k ih => exact ih.scanlineStep

end StateInv

/-! ## Every operation -/

/-- What an operation of format IO leaves: what the IO map says of its transaction, or the same block. -/
theorem exec_io_cases {i : Instr} {w : IoWord} {s t : State} (hi : encode i = .io w) (he : exec i s = .next t) :
    (i.wellFormed = true ∧ t = s.transact w) ∨ s.SameBlock t := by
  cases hwf : i.wellFormed with
  | true =>
    rw [exec_of_encode_io hi hwf] at he
    cases he
    exact .inl ⟨rfl, rfl⟩
  | false =>
    obtain ⟨u, hu, hsame⟩ := exec_of_not_wellFormed hwf s
    rw [hu] at he
    cases he
    exact .inr hsame

theorem State.Inv.exec {i : Instr} {s t : State} (h : s.Inv) (he : exec i s = .next t) : t.Inv := by
  cases hreq : encode i with
  | io w =>
    obtain ⟨-, rfl⟩ | hsame := exec_io_cases hreq he
    · exact h.transact w
    · exact h.of_sameBlock hsame
  | hook bytes =>
    cases i with
    | powerOn =>
      cases he
      exact (State.Inv.of_powerOn h.params Ppu.reset.fb).answer _
    | reset => cases he; exact .of_reset h.params h.ring h.rom
    | loadRom bytes =>
      change execLoadRom bytes s = .next t at he
      unfold execLoadRom at he
      split at he <;> cases he
      · exact h.answer _
      · rename_i hlen
        exact (h.withRom (Nat.le_of_not_lt hlen)).answer _
    | stepFrame => exact Host.Outcome.next.inj he ▸ h.scanlines _
    | scanlineStep => cases he; exact h.scanlineStep
    | onScanlineStart n => cases he; exact h.onScanlineStart n
    | renderScanline n => cases he; exact h.renderScanline n
    | dmaBoundary n vblank frame => cases he; exact h.dmaBoundary n vblank frame
    | apuAdvance cycles => cases he; exact h.apuAdvance cycles
    | irqRaise mask => cases he; exact h.raise mask
    | irqAck mask | irqWriteEnable mask => cases he; exact h.withIrq _
    | irqPreCpuUpdate | irqPostCpuUpdate => cases he; exact h.recompute
    | irqReadStatus | irqReadEnable | irqIntLineAsserted | framebufferRead => cases he; exact h.answer _
    | cpuStep budget => cases he; exact (h.runSlice budget).answer _
    | ringPush frames => cases he; exact (h.push frames).answer _
    | popAudioFrames n => cases he; exact (h.popFrames n).answer _
    | dmaExecute src dst len pal => cases he; exact h.dmaExecute src dst len pal
    | setHostButtons b => cases he; exact h.of_sameBlock (by constructor <;> rfl)
    | _ => nomatch hreq

/-- Settles O60: an idle step leaves the state, and any other runs an operation, each of which keeps the invariant. -/
theorem stepKeepsInvariant : Obligations.StepKeepsInvariant := by
  intro s t h hstep
  cases hr : s.nextRequest with
  | none =>
    rw [step_of_idle hr] at hstep
    cases hstep
    exact h
  | some r =>
    cases hd : decode r with
    | ok i =>
      rw [step_of_decode_ok hr hd] at hstep
      exact h.dropRequest.exec hstep
    | error e =>
      rw [step_of_decode_error hr hd] at hstep
      cases hstep


end Sys2Proof.Machine
end

section
/-! The bits that stay set: a pending source until it is acknowledged (spec/60_exceptions.md R363), and the overflow
latch until line 192 (spec/10_state.md R41). -/

namespace Sys2Proof.Machine

/-! ## One pending bit under the controller's operations (R161, R162) -/

/-- A pending bit that is set before is set afterwards. -/
def State.KeepsPending (k : Nat) (s t : State) : Prop :=
  s.irq.pending.getLsbD k = true → t.irq.pending.getLsbD k = true

section Pending

variable {k : Nat} {s t u : State}

theorem State.KeepsPending.of_eq (h : t.irq.pending = s.irq.pending) : State.KeepsPending k s t := by
  rw [State.KeepsPending, h]
  exact id

theorem State.KeepsPending.trans (h : State.KeepsPending k s t) (g : State.KeepsPending k t u) :
    State.KeepsPending k s u :=
  fun hk => g (h hk)

theorem State.raise_keepsPending (s : State) (mask : Byte) : State.KeepsPending k s (s.raise mask) := by
  intro hk
  rw [State.raise_irq, BitVec.getLsbD_or, hk, Bool.true_or]

theorem State.raiseIf_keepsPending (s : State) (c : Bool) (mask : Byte) :
    State.KeepsPending k s (s.raiseIf c mask) := by
  unfold State.raiseIf
  split
  · exact s.raise_keepsPending mask
  · exact .of_eq rfl

/-- Write-1-to-clear leaves a bit whose mask bit is 0 (R162). -/
theorem clearBits_getLsbD {pending mask : Byte} (hk : pending.getLsbD k = true) (hm : mask.getLsbD k = false) :
    (clearBits pending mask).getLsbD k = true := by
  have hlt : k < 8 := BitVec.lt_of_getLsbD hk
  rw [clearBits, BitVec.getLsbD_and, BitVec.getLsbD_not, hk, hm, decide_eq_true hlt]
  rfl

/-! ## Ports and CPU slices -/

theorem State.ioWrite_keepsPending {p v : Byte} (h : p = 0x82 → v.getLsbD k = false) :
    State.KeepsPending k s (s.ioWrite p v) := by
  intro hk
  rw [State.ioWrite_pending]
  split
  · rename_i hp
    exact clearBits_getLsbD hk (h hp)
  · exact hk

theorem State.ioReadEffect_irq (s : State) (p : Byte) : (s.ioReadEffect p).irq = s.irq := by
  obtain h | h | h := s.ioReadEffect_cases p <;> rw [h] <;> rfl

theorem State.transact_keepsPending {w : IoWord}
    (h : w.isWrite = true → w.port = 0x82 → w.data.getLsbD k = false) : State.KeepsPending k s (s.transact w) := by
  unfold State.transact
  split
  · rename_i hw
    exact State.ioWrite_keepsPending (h hw)
  · exact .of_eq (congrArg Irq.pending (s.ioReadEffect_irq w.port))

/-- A transaction that acknowledges a bit is that of a row which may clear it (R175). -/
theorem mayClearPending_of_encode {i : Instr} {w : IoWord} (hi : encode i = .io w) (hwf : i.wellFormed = true)
    (hwrite : w.isWrite = true) (hport : w.port = 0x82) (hk : w.data.getLsbD k = true) : mayClearPending s k i := by
  cases i with
  | outIrqAck v =>
    cases hi
    rwa [ioWord_data] at hk
  | outApu port v | outUnmapped port v =>
    cases hi
    rw [ioWord_port] at hport
    subst hport
    exact nomatch hwf
  | inApu port | inUnmapped port | inIrqAck =>
    cases hi
    simp at hwrite
  | _ => cases hi <;> simp at hport

theorem State.cpuAction_keepsPending {a : CpuAction} (h : a.acks k = false) :
    State.KeepsPending k s (s.cpuAction a) := by
  cases a with
  | input addr => exact .of_eq (congrArg Irq.pending (s.ioReadEffect_irq _))
  | output addr v =>
    refine State.ioWrite_keepsPending fun hp => ?_
    simpa [CpuAction.acks, hp] using h
  | load addr => exact .of_eq rfl
  | store addr v => exact .of_eq (congrArg Irq.pending (s.memWrite_irq addr v))
  | sampleInt => exact .of_eq rfl

theorem State.cpuActions_keepsPending (acts : List CpuAction) : ∀ {s : State}, (∀ a ∈ acts, a.acks k = false) →
    State.KeepsPending k s (s.cpuActions acts) := by
  induction acts with
  | nil => exact fun _ => .of_eq rfl
  | cons a acts ih =>
    intro s h
    obtain ⟨ha, hacts⟩ := List.forall_mem_cons.1 h
    exact (State.cpuAction_keepsPending ha).trans (ih hacts)

theorem State.runSlice_keepsPending {budget : Nat} (h : ∀ a ∈ (s.nextSlice budget).actions, a.acks k = false) :
    State.KeepsPending k s (s.runSlice budget) := by
  have htake : State.KeepsPending k s s.takeSlice := .of_eq (congrArg Irq.pending s.takeSlice_sameBlock.irq)
  unfold State.runSlice
  split
  · exact htake
  · exact htake.trans (State.cpuActions_keepsPending _ h)

/-! ## The scheduler's hooks and the DMA engine -/

theorem State.onScanlineStart_keepsPending (s : State) (n : Fin 262) :
    State.KeepsPending k s (s.onScanlineStart n) := by
  have hstart : State.KeepsPending k s (s.commit.startVblankAt n) := by
    unfold State.startVblankAt
    split
    · exact State.raise_keepsPending { s.commit with
        ppu.vblank := true
        ppu.sprOvfLatch := false
        sched.vblankLatchLine := some Config.vblankLine } irqVblank
    · exact .of_eq rfl
  have hend : State.KeepsPending k (s.commit.startVblankAt n) ((s.commit.startVblankAt n).endVblankAt n) := by
    unfold State.endVblankAt
    split <;> exact .of_eq rfl
  exact (hstart.trans hend).trans (State.raiseIf_keepsPending _ _ irqTimer)

theorem State.latchOverflow_keepsPending (s : State) (overflow : Bool) :
    State.KeepsPending k s (s.latchOverflow overflow) := by
  unfold State.latchOverflow
  split
  · exact State.raiseIf_keepsPending { s with ppu.sprOvfLatch := true } _ _
  · exact .of_eq rfl

theorem State.renderScanline_keepsPending (s : State) (n : Fin 192) :
    State.KeepsPending k s (s.renderScanline n) := by
  unfold State.renderScanline
  split <;> exact s.latchOverflow_keepsPending _

theorem State.dmaCopy_irq (s : State) (src dst : Half) (pal : Bool) (n : Nat) :
    (s.dmaCopy src dst pal n).irq = s.irq := by
  cases pal
  · rw [State.dmaCopy_vram]
  · rw [State.dmaCopy_palette]

theorem State.dmaExecute_keepsPending (s : State) (src dst len : Half) (pal : Bool) :
    State.KeepsPending k s (s.dmaExecute src dst len pal) :=
  State.KeepsPending.trans (.of_eq (congrArg Irq.pending (s.dmaCopy_irq src dst pal len.toNat)))
    (State.raiseIf_keepsPending _ _ irqDmaDone)

theorem State.dmaBoundary_keepsPending (s : State) (n : Fin 262) (vblank : Bool) (frame : Nat) :
    State.KeepsPending k s (s.dmaBoundary n vblank frame) := by
  unfold State.dmaBoundary
  split
  · exact s.dmaExecute_keepsPending _ _ _ _
  · split
    · exact .of_eq rfl
    · unfold State.dmaRequest
      split
      · exact .of_eq rfl
      · split
        · exact s.dmaConsumeStart.dmaExecute_keepsPending _ _ _ _
        · split <;> exact .of_eq rfl

end Pending

/-- `LOAD_ROM` touches neither the PPU nor the IRQ controller (R393). -/
theorem exec_loadRom_frame {bytes : List Byte} {s t : State} (he : exec (.loadRom bytes) s = .next t) :
    t.ppu = s.ppu ∧ t.irq = s.irq := by
  change execLoadRom bytes s = .next t at he
  unfold execLoadRom at he
  split at he <;> cases he <;> exact ⟨rfl, rfl⟩

/-- Settles O26, operation by operation: a raise adds bits, and what may clear a bit carries it in its mask. -/
theorem pendingClearedOnlyByAckOrReset : Obligations.PendingClearedOnlyByAckOrReset := by
  intro s t i k he hk hclear
  suffices hkeeps : State.KeepsPending k s t from hkeeps hk
  cases hreq : encode i with
  | io w =>
    obtain ⟨hwf, rfl⟩ | hsame := exec_io_cases hreq he
    · refine State.transact_keepsPending fun hwrite hport => ?_
      rw [← Bool.not_eq_true]
      exact fun hdata => hclear (mayClearPending_of_encode hreq hwf hwrite hport hdata)
    · exact .of_eq (congrArg Irq.pending hsame.irq)
  | hook bytes =>
    cases i with
    | powerOn | reset | stepFrame | scanlineStep => exact absurd trivial hclear
    | irqAck mask =>
      cases he
      exact fun hk => clearBits_getLsbD hk (by simpa [mayClearPending] using hclear)
    | cpuStep budget =>
      cases he
      refine State.runSlice_keepsPending fun a ha => ?_
      rw [← Bool.not_eq_true]
      exact fun hack => hclear ⟨a, ha, hack⟩
    | onScanlineStart n => cases he; exact s.onScanlineStart_keepsPending n
    | renderScanline n => cases he; exact s.renderScanline_keepsPending n
    | dmaBoundary n vblank frame => cases he; exact s.dmaBoundary_keepsPending n vblank frame
    | dmaExecute src dst len pal => cases he; exact s.dmaExecute_keepsPending src dst len pal
    | irqRaise mask => cases he; exact s.raise_keepsPending mask
    | loadRom bytes => exact .of_eq (congrArg Irq.pending (exec_loadRom_frame he).2)
    | apuAdvance cycles =>
      cases he
      rw [State.apuAdvance_rest]
      exact .of_eq rfl
    | irqWriteEnable | irqReadStatus | irqReadEnable | irqPreCpuUpdate | irqPostCpuUpdate
    | irqIntLineAsserted | ringPush | popAudioFrames | framebufferRead | setHostButtons =>
      cases he
      exact .of_eq rfl
    | _ => nomatch hreq

/-! ## The overflow latch (R41) -/

/-- A transaction is inside what the CPU can change. -/
theorem State.transact_frame (s : State) (w : IoWord) : s.CpuFrame (s.transact w) := by
  unfold State.transact
  split
  · exact s.ioWrite_frame _ _
  · exact (s.ioReadEffect_frame _).trans (by constructor <;> rfl)

/-- A copy keeps the latch, with or without the interrupt at its end (R223, R225). -/
theorem State.dmaExecute_sprOvfLatch (s : State) (src dst len : Half) (pal : Bool) :
    (s.dmaExecute src dst len pal).ppu.sprOvfLatch = s.ppu.sprOvfLatch := by
  rw [State.dmaExecute, State.raiseIf_ppu]
  exact (s.dmaCopy_flags src dst pal len.toNat).2

/-- The hook of any line but 192 leaves the latch (R133, R135). -/
theorem State.onScanlineStart_sprOvfLatch (s : State) {n : Fin 262} (h : n.val ≠ 192) :
    (s.onScanlineStart n).ppu.sprOvfLatch = s.ppu.sprOvfLatch := by
  rw [(State.onScanlineStart_flags _ _).2, if_neg h]

/-- Settles O48: the hook clears the latch at line 192 only, and nothing after the hook of a scanline step clears it. -/
theorem overflowLatchPersists : Obligations.OverflowLatchPersists := by
  intro s t i he hlatch hclear
  cases hreq : encode i with
  | io w =>
    obtain ⟨-, rfl⟩ | hsame := exec_io_cases hreq he
    · exact (s.transact_frame w).sprOvfLatch.trans hlatch
    · exact (congrArg Ppu.sprOvfLatch hsame.ppu).trans hlatch
  | hook bytes =>
    cases i with
    | powerOn | reset | stepFrame => exact absurd trivial hclear
    | scanlineStep =>
      cases he
      exact s.scanlineStep_flags.2 ((State.onScanlineStart_sprOvfLatch _ hclear).trans hlatch)
    | onScanlineStart n =>
      cases he
      exact (State.onScanlineStart_sprOvfLatch _ hclear).trans hlatch
    | renderScanline n => cases he; exact (s.renderScanline_flags n).1 hlatch
    | dmaBoundary n vblank frame => cases he; exact (s.dmaBoundary_flags n vblank frame).2.trans hlatch
    | dmaExecute src dst len pal => cases he; exact (s.dmaExecute_sprOvfLatch src dst len pal).trans hlatch
    | cpuStep budget => cases he; exact (s.runSlice_frame budget).sprOvfLatch.trans hlatch
    | loadRom bytes => exact (congrArg Ppu.sprOvfLatch (exec_loadRom_frame he).1).trans hlatch
    | apuAdvance cycles =>
      cases he
      rw [State.apuAdvance_rest]
      exact hlatch
    | irqRaise | irqAck | irqWriteEnable | irqReadStatus | irqReadEnable | irqPreCpuUpdate
    | irqPostCpuUpdate | irqIntLineAsserted | ringPush | popAudioFrames | framebufferRead | setHostButtons =>
      cases he
      exact hlatch
    | _ => nomatch hreq

end Sys2Proof.Machine
end

section
/-! The VBlank flag over scanline steps (spec/40_scheduler.md R143), the contract of a CPU slice (R138), the pixels of a
plane (spec/45_ppu_render.md R301, R302) and the host's view of the framebuffer (R316). -/

namespace Sys2Proof.Machine

/-! ## The VBlank flag -/

theorem State.scanlineStep_line (s : State) :
    s.scanlineStep.sched.currentScanline.val = (s.sched.currentScanline.val + 1) % 262 := by
  rw [State.scanlineStep_sched]
  split
  · rename_i h
    rw [h]
    rfl
  · exact Fin.val_add _ _

/-- One step from its phase leaves the flag set exactly from line 192 on, and the next line in its phase (R143). -/
theorem State.VblankPhase.scanlineStep {s : State} (h : s.VblankPhase) :
    s.scanlineStep.VblankPhase ∧ (s.scanlineStep.ppu.vblank = true ↔ 192 ≤ s.sched.currentScanline.val) := by
  obtain ⟨hset, hfrom⟩ := h
  have hflag : s.scanlineStep.ppu.vblank = true ↔ 192 ≤ s.sched.currentScanline.val := by
    rw [State.scanlineStep_vblank]
    split
    · exact iff_of_true rfl (by omega)
    · split
      · exact iff_of_false Bool.false_ne_true (by omega)
      · refine ⟨fun hv => ?_, fun hline => hfrom (by omega)⟩
        have := hset hv
        omega
  refine ⟨?_, hflag⟩
  unfold State.VblankPhase
  rw [hflag, State.scanlineStep_line]
  have := s.sched.currentScanline.isLt
  omega

/-- A run of scanline steps as operations (R140). -/
theorem runOps_scanlineStep (k : Nat) : ∀ s : State,
    runOps (List.replicate k .scanlineStep) s = .next (State.scanlineStep^[k] s) := by
  induction k with
  | zero => exact fun s => rfl
  | succ k ih => exact fun s => ih s.scanlineStep

theorem State.scanlineStep_iterate_line {s : State} (h : s.sched.currentScanline = 0) (k : Nat) :
    (State.scanlineStep^[k] s).sched.currentScanline.val = k % 262 := by
  induction k with
  | zero => simp [h]
  | succ k ih => rw [Function.iterate_succ_apply', State.scanlineStep_line, ih, Nat.mod_add_mod]

/-- The hook of line 0 clears the flag, whatever it was (R136). -/
theorem State.scanlineStep_vblank_of_line_zero {s : State} (h : s.sched.currentScanline = 0) :
    s.scanlineStep.ppu.vblank = false := by
  rw [State.scanlineStep_vblank, h]
  rfl

/-- After the first line of a frame the flag is in its phase for good. -/
theorem State.scanlineStep_iterate_vblankPhase {s : State} (h : s.sched.currentScanline = 0) (k : Nat) :
    (State.scanlineStep^[k + 1] s).VblankPhase := by
  induction k with
  | zero =>
    have hline := State.scanlineStep_iterate_line h 1
    have hflag := State.scanlineStep_vblank_of_line_zero h
    simp only [Function.iterate_one, zero_add] at hline ⊢
    exact ⟨fun hv => by simp [hflag] at hv, fun hge => by omega⟩
  | succ k ih =>
    rw [Function.iterate_succ_apply']
    exact ih.scanlineStep.1

/-- Settles O37, from the phase of the flag before each line. -/
theorem vblankLaw : Obligations.VblankLaw := by
  refine ⟨fun s h => ⟨s.scanlineStep, rfl, h.scanlineStep.1, h.scanlineStep.2⟩, fun s k hzero => ?_⟩
  refine ⟨_, runOps_scanlineStep (k + 1) s, ?_⟩
  cases k with
  | zero =>
    simp [State.scanlineStep_vblank_of_line_zero hzero]
  | succ k =>
    rw [Function.iterate_succ_apply', (State.scanlineStep_iterate_vblankPhase hzero k).scanlineStep.2,
      State.scanlineStep_iterate_line hzero]

/-! ## The CPU's slice -/

theorem State.executedOf_zero (s : State) : s.executedOf 0 = 0 := rfl

/-- A slice fixed on the tape with a legal overshoot executes its budget and that overshoot (R138). -/
theorem State.executedOf_tape {s : State} {budget : Nat} (acts : List CpuAction) {extra : Nat} (hb : 0 < budget)
    (hextra : extra < s.params.maxOvershoot) :
    State.executedOf { s with env.cpuTape := [⟨acts, extra⟩] } budget = budget + extra := by
  rw [State.executedOf, if_neg hb.ne']
  exact congrArg (budget + ·) (Nat.mod_eq_of_lt hextra)

/-- Settles O39, from the bounds of a slice, its frame, and a tape with the number asked for. -/
theorem cpuStepContract : Obligations.CpuStepContract := by
  intro s budget hmax
  refine ⟨⟨_, s.executedOf budget, rfl, rfl, ?zero, ?bounds, ?frame⟩, ?every⟩
  case zero =>
    rintro rfl
    exact s.executedOf_zero
  case bounds => exact fun _ => ⟨s.le_executedOf budget, s.executedOf_lt budget hmax⟩
  case frame => exact (s.runSlice_frame budget).trans (by constructor <;> rfl)
  case every =>
    intro executed acts hb hle hlt
    refine ⟨_, rfl, ?_⟩
    have hexec := State.executedOf_tape (s := s) acts hb (show executed - budget < s.params.maxOvershoot by omega)
    rw [State.answer_env, hexec, Nat.add_sub_cancel' hle]

/-! ## Tile and plane pixels -/

/-- A tile pixel is a nibble of its byte (R301). -/
theorem tilePixel_toNat (p : Ppu) (tile px py : Nat) :
    (tilePixel p tile px py).toNat =
      if px % 2 = 0 then vramNat p (p.active.patBase.toNat * 1024 + tile * 32 + py * 4 + px / 2) / 16
      else vramNat p (p.active.patBase.toNat * 1024 + tile * 32 + py * 4 + px / 2) % 16 := by
  unfold tilePixel
  simp only [apply_ite BitVec.toNat, highNibble_toNat, lowNibble_toNat]
  rfl

/-- Bits 15:10 of a tilemap entry have no effect (R302). -/
theorem tilemapTile_eq (entry : Half) : tilemapTile entry = entry.toNat % 1024 := by
  simp [tilemapTile, BitVec.extractLsb'_toNat]

/-- Settles O42: a plane pixel is the tile pixel at the scrolled position, its column's parity that of the position's. -/
theorem planePixelFollowsTilemap : Obligations.PlanePixelFollowsTilemap := by
  refine ⟨fun p tile px py => tilePixel_toNat p tile px py, ?_⟩
  intro p base scrollX scrollY n x gy gx entry byte
  have hparity : gx % 8 % 2 = gx % 2 := Nat.mod_mod_of_dvd gx (by decide)
  calc (planePixel p base scrollX scrollY n x).toNat
      _ = (tilePixel p (tilemapTile (vramRead16 p.vram (base.toNat * 1024 + (gy / 8 * 32 + gx / 8) * 2)))
            (gx % 8) (gy % 8)).toNat := rfl
      _ = if gx % 2 = 0 then byte / 16 else byte % 16 := by
        rw [tilemapTile_eq, tilePixel_toNat, hparity]
        rfl

/-! ## The framebuffer, row by row -/

theorem length_flatten_rows {α : Type} {w : Nat} (rows : List (List α)) (h : ∀ r ∈ rows, r.length = w) :
    rows.flatten.length = rows.length * w := by
  rw [List.length_flatten, List.map_congr_left h, List.map_const', List.sum_replicate, smul_eq_mul]

/-- Where an item of rows of one width stands once they are laid end to end. -/
theorem getElem?_flatten_rows {α : Type} {w x : Nat} (hx : x < w) (rows : List (List α)) :
    ∀ y, (∀ r ∈ rows, r.length = w) → rows.flatten[y * w + x]? = rows[y]?.bind (·[x]?) := by
  induction rows with
  | nil => simp
  | cons r rows ih =>
    intro y h
    obtain ⟨hr, hrows⟩ := List.forall_mem_cons.1 h
    rw [List.flatten_cons]
    cases y with
    | zero => rw [List.getElem?_append_left (by omega)]; simp
    | succ y =>
      have hge : r.length ≤ (y + 1) * w + x := by rw [hr, Nat.succ_mul]; omega
      have hsub : (y + 1) * w + x - r.length = y * w + x := by rw [hr, Nat.succ_mul]; omega
      rw [List.getElem?_append_right hge, hsub, ih y hrows, List.getElem?_cons_succ]

/-- The rows of a framebuffer. -/
def framebufferRows (fb : Framebuffer) : List (List Argb) := fb.toList.map Vector.toList

theorem framebufferPixels_eq (fb : Framebuffer) : framebufferPixels fb = (framebufferRows fb).flatten := rfl

theorem framebufferRows_length (fb : Framebuffer) : ∀ r ∈ framebufferRows fb, r.length = 256 := by
  simp [framebufferRows]

/-- Settles O49: the rows are 192 of 256 pixels each. -/
theorem framebufferIsRowMajor : Obligations.FramebufferIsRowMajor := by
  intro s
  refine ⟨framebufferPixels s.ppu.fb, rfl, ?length, fun y x => ?pixel⟩
  case length =>
    rw [framebufferPixels_eq, length_flatten_rows _ (framebufferRows_length _)]
    simp [framebufferRows]
  case pixel =>
    rw [framebufferPixels_eq, getElem?_flatten_rows x.isLt _ _ (framebufferRows_length _)]
    simp [framebufferRows]

end Sys2Proof.Machine
end

section
/-! Proofs of the statements of spec/20_memory.md: reads after writes of VRAM and CPU memory (R82 to R86), the palette
aperture (R87, R268 to R271), and the bytes a DMA copy leaves (R223). -/

namespace Sys2Proof.Machine

/-! ## VRAM (R84 to R86) -/

theorem littleEndian_toNat (lo hi : Byte) : (littleEndian lo hi).toNat = lo.toNat + 256 * hi.toNat := by
  have := lo.isLt
  unfold littleEndian
  rw [BitVec.toNat_append, Nat.shiftLeft_eq, Nat.mul_comm, ← Nat.two_pow_add_eq_or_of_lt this]
  omega

/-- Settles O27: the reads are of the wrapped address, so a write meets the reads of its own wrapped address only. -/
theorem vramAccessesWrap : Obligations.VramAccessesWrap := by
  intro s a b v
  exact ⟨rfl, s.vramRead_vramWrite a b v, rfl, littleEndian_toNat _ _⟩

/-! ## CPU memory (R82, R83) -/

theorem State.memWrite_rest (s : State) (a : Half) (v : Byte) :
    s.memWrite a v = { s with wram := (s.memWrite a v).wram } := by
  unfold State.memWrite
  split <;> rfl

theorem State.memWrite_of_lt {a : Half} (h : a.toNat < 0xC000) (s : State) (v : Byte) : s.memWrite a v = s :=
  if_neg (by omega)

/-- Settles O28: the map of R82, and a store read back anywhere. -/
theorem cpuMemoryMap : Obligations.CpuMemoryMap := by
  intro s a b v
  refine ⟨?map, s.memRead_memWrite a b v, s.memWrite_rest a v, fun h => State.memWrite_of_lt h s v⟩
  case map =>
    have hrom : (if a.toNat < s.rom.length then s.rom.getD a.toNat 0xFF else 0xFF) =
        if h : a.toNat < s.rom.length then s.rom[a.toNat] else 0xFF := by
      split
      · exact List.getD_eq_getElem _ _ _
      · rfl
    rw [State.memRead, hrom]

/-! ## The palette aperture (R87, R268 to R271) -/

/-- The low byte of an entry is stored whole, the high byte under the 9-bit mask (R87). -/
theorem palMask_eq (a v : Byte) : palMask a v = if a.toNat % 2 = 0 then v else v &&& 0x01 := by
  have hbit : a.getLsbD 0 = decide (a.toNat % 2 = 1) := by simp [BitVec.getLsbD, Nat.testBit_zero]
  rw [palMask, hbit]
  obtain h | h := Nat.mod_two_eq_zero_or_one a.toNat <;> simp [h]

/-- PAL_ADDR steps modulo 256 (R269, R270). -/
theorem State.bumpPalAddr_eq (s : State) :
    s.bumpPalAddr = { s with ppu.palAddr := BitVec.ofNat 8 (s.ppu.palAddr.toNat + 1) } := by
  have hsucc : s.ppu.palAddr + 1 = BitVec.ofNat 8 (s.ppu.palAddr.toNat + 1) := by
    rw [BitVec.ofNat_add, BitVec.ofNat_toNat, BitVec.setWidth_eq]
    rfl
  rw [State.bumpPalAddr, hsucc]

theorem State.writePalData_eq (s : State) (v : Byte) :
    s.writePalData v = { s with
      ppu.stagedPal := Memory.write s.ppu.stagedPal s.ppu.palAddr.toNat
        (if s.ppu.palAddr.toNat % 2 = 0 then v else v &&& 0x01)
      ppu.palAddr := BitVec.ofNat 8 (s.ppu.palAddr.toNat + 1) } := by
  rw [State.writePalData, State.bumpPalAddr_eq, State.palWriteByte, palMask_eq]

/-- A staged byte after a PAL_DATA write: the one pointed at holds what was written, under its mask (R270). -/
theorem State.palReadByte_writePalData (s : State) (b v : Byte) :
    (s.writePalData v).palReadByte b = if b = s.ppu.palAddr then palMask s.ppu.palAddr v else s.palReadByte b :=
  s.palReadByte_palWriteByte s.ppu.palAddr b v

/-- Settles O13: both PAL_DATA operations step the pointer. -/
theorem palettePorts : Obligations.PalettePorts := by
  intro s v
  refine ⟨rfl, rfl, ?read, ?write⟩
  case read =>
    show Host.Outcome.next (s.bumpPalAddr.answerByte (s.palReadByte s.ppu.palAddr)) = _
    rw [State.bumpPalAddr_eq]
    rfl
  case write => exact congrArg Host.Outcome.next (s.writePalData_eq v)

/-- Settles O14: the second PAL_ADDR write points back at the byte the PAL_DATA write stored. -/
theorem paletteReadAfterWrite : Obligations.PaletteReadAfterWrite := by
  intro s a v
  have hstaged : ∀ b : Byte, (((s.writePalAddr a).writePalData v).writePalAddr a).palReadByte b =
      if b = a then palMask a v else s.palReadByte b :=
    fun b => (s.writePalAddr a).palReadByte_writePalData b v
  refine ⟨_, rfl, ?reply, ?pointer, ?others, rfl, rfl, rfl⟩
  case reply => exact congrArg Reply.byte ((hstaged a).trans ((if_pos rfl).trans (palMask_eq a v)))
  case pointer =>
    exact congrArg (·.ppu.palAddr) (((s.writePalAddr a).writePalData v).writePalAddr a).bumpPalAddr_eq
  case others => exact fun b hb => (hstaged b).trans (if_neg hb)

/-! ## DMA byte latches (R90, R210 to R215) -/

/-- Settles O15: each port puts or gets its own latch, and a latch is one byte of its register. -/
theorem dmaRegisterPorts : Obligations.DmaRegisterPorts := by
  intro s v
  exact ⟨rfl, rfl, rfl, rfl, rfl, rfl, rfl, rfl, rfl, rfl, rfl, rfl⟩

/-! ## A run of writes to one memory -/

/-- The memory after the first `k` of a run of writes, in increasing order. -/
def Memory.writes (m : Memory) (addr : Nat → Nat) (val : Nat → Byte) : Nat → Memory
  | 0 => m
  | k + 1 => Memory.write (Memory.writes m addr val k) (addr k) (val k)

/-- The last of the first `k` iterations that meets `p`. -/
def lastIteration (k : Nat) (p : Nat → Bool) : Option Nat := (List.range k).reverse.find? p

theorem lastIteration_succ (k : Nat) (p : Nat → Bool) :
    lastIteration (k + 1) p = if p k then some k else lastIteration k p := by
  rw [lastIteration, List.range_succ, List.reverse_append, List.reverse_singleton, List.singleton_append,
    List.find?_cons]
  cases p k <;> rfl

theorem lastIteration_some {k i : Nat} {p : Nat → Bool} (h : lastIteration k p = some i) : p i = true :=
  List.find?_some (p := p) h

/-- The last writer wins: a byte holds what the last write to its address wrote, or what it held before. -/
theorem Memory.read_writes (m : Memory) (addr : Nat → Nat) (val : Nat → Byte) (a k : Nat) :
    Memory.read (Memory.writes m addr val k) a =
      (lastIteration k fun i => addr i == a).elim (Memory.read m a) val := by
  induction k with
  | zero => rfl
  | succ k ih =>
    rw [Memory.writes, Memory.read_write, lastIteration_succ, ih]
    by_cases h : addr k = a
    · simp [h]
    · simp [h, Ne.symm h]

/-! ## A DMA copy (R223) -/

/-- The source address wraps at 65536 (R223; D19). -/
theorem State.dmaSourceByte_eq (s : State) (src : Half) (i : Nat) :
    s.dmaSourceByte src i = s.memRead (BitVec.ofNat 16 (src.toNat + i)) := by
  rw [State.dmaSourceByte, BitVec.ofNat_add, BitVec.ofNat_toNat, BitVec.setWidth_eq]

/-- The bytes a copy reads at any iteration are those before it (R103). -/
theorem State.dmaSourceByte_dmaCopy (s : State) (src dst : Half) (pal : Bool) (k i : Nat) :
    (s.dmaCopy src dst pal k).dmaSourceByte src i = s.memRead (BitVec.ofNat 16 (src.toNat + i)) := by
  rw [State.dmaSourceByte_eq, State.dmaCopy_source]

theorem dmaPalAddr_toNat (dst : Half) (i : Nat) : (dmaPalAddr dst i).toNat = (dst.toNat + i) % 256 :=
  BitVec.toNat_ofNat _ _

/-- A copy to VRAM is a run of writes to it. -/
theorem State.dmaCopy_vram_eq_writes (s : State) (src dst : Half) (k : Nat) :
    (s.dmaCopy src dst false k).ppu.vram = Memory.writes s.ppu.vram (fun i => (dst.toNat + i) % 49152)
      (fun i => s.memRead (BitVec.ofNat 16 (src.toNat + i))) k := by
  induction k with
  | zero => rfl
  | succ k ih =>
    rw [Memory.writes, ← ih, ← s.dmaSourceByte_dmaCopy src dst false k]
    rfl

/-- A copy to the palette is a run of masked writes to the staged palette. -/
theorem State.dmaCopy_stagedPal_eq_writes (s : State) (src dst : Half) (k : Nat) :
    (s.dmaCopy src dst true k).ppu.stagedPal = Memory.writes s.ppu.stagedPal (fun i => (dst.toNat + i) % 256)
      (fun i => palMask (dmaPalAddr dst i) (s.memRead (BitVec.ofNat 16 (src.toNat + i)))) k := by
  induction k with
  | zero => rfl
  | succ k ih =>
    rw [Memory.writes, ← ih, ← s.dmaSourceByte_dmaCopy src dst true k, ← dmaPalAddr_toNat]
    rfl

theorem State.raiseIf_eq (s : State) (c : Bool) (mask : Byte) :
    s.raiseIf c mask = { s with irq.pending := if c then s.irq.pending ||| mask else s.irq.pending } := by
  cases c <;> rfl

/-- `DMA_EXECUTE` to VRAM changes VRAM and, where configured, bit 4 of the pending mask (R223, R225). -/
theorem State.dmaExecute_vram (s : State) (src dst len : Half) :
    s.dmaExecute src dst len false = { s with
      ppu.vram := (s.dmaExecute src dst len false).ppu.vram
      irq.pending := if s.params.irqDmaDone then s.irq.pending ||| 0x10 else s.irq.pending } := by
  rw [State.dmaExecute, State.dmaCopy_vram, State.raiseIf_eq]
  rfl

/-- `DMA_EXECUTE` to the palette changes the staged palette and, where configured, bit 4 of the pending mask. -/
theorem State.dmaExecute_palette (s : State) (src dst len : Half) :
    s.dmaExecute src dst len true = { s with
      ppu.stagedPal := (s.dmaExecute src dst len true).ppu.stagedPal
      irq.pending := if s.params.irqDmaDone then s.irq.pending ||| 0x10 else s.irq.pending } := by
  rw [State.dmaExecute, State.dmaCopy_palette, State.raiseIf_eq]
  rfl

theorem State.dmaExecute_ppu (s : State) (src dst len : Half) (pal : Bool) :
    (s.dmaExecute src dst len pal).ppu = (s.dmaCopy src dst pal len.toNat).ppu :=
  State.raiseIf_ppu _ _ _

/-- Settles O29: a copy is a run of writes, and the last write to an address stands there. -/
theorem dmaExecuteCopies : Obligations.DmaExecuteCopies := by
  intro s src dst len
  refine ⟨⟨_, rfl, s.dmaExecute_vram src dst len, fun a _ => ?vram⟩,
    ⟨_, rfl, s.dmaExecute_palette src dst len, fun a _ => ?palette⟩⟩
  case vram =>
    rw [State.dmaExecute_ppu, State.dmaCopy_vram_eq_writes, Memory.read_writes, lastIteration]
    split
    case h_1 i hlast => rw [hlast, Option.elim_some]
    case h_2 hlast => rw [hlast, Option.elim_none]
  case palette =>
    rw [State.dmaExecute_ppu, State.dmaCopy_stagedPal_eq_writes, Memory.read_writes, lastIteration]
    split
    case h_1 i hlast =>
      have haddr : (dst.toNat + i) % 256 = a := by simpa using lastIteration_some hlast
      rw [hlast, Option.elim_some, palMask_eq, dmaPalAddr_toNat, haddr]
    case h_2 hlast => rw [hlast, Option.elim_none]

end Sys2Proof.Machine
end

section
/-! Proofs of the statements of spec/20_memory.md, its order of accesses (R98): the actions of a CPU slice one after the
other (spec/40_scheduler.md R138), and the eight steps of a scanline step (R131). -/

namespace Sys2Proof.Machine

/-! ## What a slice leaves of the last reply -/

/-- What the CPU gets back inside a slice goes to `cpuSeen`, not to `reply` (log entry 6). -/
theorem State.cpuAction_reply (s : State) (a : CpuAction) : (s.cpuAction a).env.reply = s.env.reply := by
  cases a with
  | input addr =>
    show (s.ioReadEffect (portOf addr)).env.reply = s.env.reply
    obtain h | h | h := s.ioReadEffect_cases (portOf addr) <;> rw [h] <;> rfl
  | output addr v =>
    show (s.ioWrite (portOf addr) v).env.reply = s.env.reply
    obtain h | h := s.ioWrite_env (portOf addr) v <;> rw [h]
  | load addr => rfl
  | store addr v => exact congrArg Env.reply (s.memWrite_env addr v)
  | sampleInt => rfl

theorem State.cpuActions_reply (acts : List CpuAction) : ∀ s : State, (s.cpuActions acts).env.reply = s.env.reply := by
  induction acts with
  | nil => exact fun _ => rfl
  | cons a acts ih => exact fun s => (ih (s.cpuAction a)).trans (s.cpuAction_reply a)

theorem State.takeSlice_reply (s : State) : s.takeSlice.env.reply = s.env.reply := by
  unfold State.takeSlice
  split <;> rfl

theorem State.runSlice_reply (s : State) (budget : Nat) : (s.runSlice budget).env.reply = s.env.reply := by
  unfold State.runSlice
  split
  · exact s.takeSlice_reply
  · exact (State.cpuActions_reply _ _).trans s.takeSlice_reply

/-- An answer is undone by putting the last reply back. -/
theorem State.answer_restore {s : State} {r : Reply} (r' : Reply) (h : s.env.reply = r) :
    (s.answer r').answer r = s := by
  subst h
  rfl

/-! ## A slice from the tape -/

theorem State.cpuActions_append (s : State) (before after : List CpuAction) :
    s.cpuActions (before ++ after) = after.foldl State.cpuAction (s.cpuActions before) :=
  List.foldl_append

/-- A slice of the tape runs its actions on the state with that slice taken (R138). -/
theorem State.runSlice_tape (s : State) {budget : Nat} (hb : 0 < budget) (acts : List CpuAction) (extra : Nat)
    (rest : List CpuSlice) :
    State.runSlice { s with env.cpuTape := ⟨acts, extra⟩ :: rest } budget =
      State.cpuActions { s with env.cpuTape := rest, env.cpuSeen := [] } acts :=
  if_neg hb.ne'

/-- How long a slice of the tape runs does not depend on what it does. -/
theorem State.executedOf_tape_actions (s : State) (budget : Nat) (acts acts' : List CpuAction) (extra : Nat)
    (rest : List CpuSlice) :
    State.executedOf { s with env.cpuTape := ⟨acts, extra⟩ :: rest } budget =
      State.executedOf { s with env.cpuTape := ⟨acts', extra⟩ :: rest } budget := rfl

/-- Settles O40: the actions are folded over the state, so those of the second part act on what the first part left. -/
theorem cpuSliceInProgramOrder : Obligations.CpuSliceInProgramOrder := by
  refine ⟨fun s budget extra before after rest hb => ⟨_, _, rfl, rfl, ?_⟩, fun s a => ⟨rfl, rfl⟩⟩
  rw [State.runSlice_tape s hb, State.runSlice_tape s hb, State.cpuActions_append,
    State.executedOf_tape_actions s budget _ before]
  have hreply : (State.cpuActions { s with env.cpuTape := rest, env.cpuSeen := [] } before).env.reply = s.env.reply :=
    State.cpuActions_reply before _
  exact congrArg (fun u => State.answer (after.foldl State.cpuAction u) _) (State.answer_restore _ hreply).symm

/-! ## The scanline step (R131) -/

/-- Step 3 is `CPU_STEP` with its accounts, its answer given to the scheduler and not kept (log entry 6). -/
theorem State.cpuPhase_eq (s : State) (cycles : Nat) :
    s.cpuPhase cycles = State.answer
      (((s.runSlice cycles).answer (.nat (s.executedOf cycles))).charge cycles (s.executedOf cycles)) s.env.reply :=
  (State.answer_restore (s := s.cpuPhase cycles) _ (s.runSlice_reply cycles)).symm

/-- Step 5 renders a visible line as its own operation does, and no other line. -/
theorem exec_renderScanline_renderVisible (s : State) (n : Fin 262) :
    if h : n.val < 192 then exec (.renderScanline ⟨n, h⟩) s = .next (s.renderVisible n) else s.renderVisible n = s := by
  split
  · rename_i h
    rw [State.renderVisible, dif_pos h]
    rfl
  · rename_i h
    exact dif_neg h

/-- Settles O33: each phase is what its own operation does, once the reply of `CPU_STEP` is put back. -/
theorem scanlineStepComposes : Obligations.ScanlineStepComposes := by
  intro s
  refine ⟨_, _, _, _, _, _, (s.takeBudget.onScanlineStart s.sched.currentScanline).executedOf s.lineBudget, rfl, rfl, rfl,
    ?accounts, exec_renderScanline_renderVisible _ _, rfl, rfl, rfl⟩
  case accounts => exact congrArg (fun u => Host.Outcome.next u.recompute) (State.cpuPhase_eq _ s.lineBudget).symm

end Sys2Proof.Machine
end

section
/-! Proofs of the statements of spec/30_encoding.md, the choice among the rows of the opcode table (R113): the selected
row is the heaviest match. -/

namespace Sys2Proof

/-! ## The row with the heaviest mask (R113) -/

/-- A row of the list that matches, no matching row of the list having a heavier mask. -/
def HeaviestMatch (w : IoWord) (rows : List IoRow) (r : IoRow) : Prop :=
  r ∈ rows ∧ w &&& r.mask = r.pattern ∧
    ∀ q ∈ rows, w &&& q.mask = q.pattern → maskWeight q.mask ≤ maskWeight r.mask

/-- What a choice among the rows must be: the heaviest match, or nothing where no row matches. -/
def SelectionOk (w : IoWord) (rows : List IoRow) : Option IoRow → Prop
  | some r => HeaviestMatch w rows r
  | none => ∀ q ∈ rows, ¬ w &&& q.mask = q.pattern

section Selection

variable {w : IoWord} {rows : List IoRow} {q r : IoRow}

theorem SelectionOk.concat_mismatch {best : Option IoRow} (h : SelectionOk w rows best)
    (hq : ¬ w &&& q.mask = q.pattern) : SelectionOk w (rows ++ [q]) best := by
  cases best with
  | none => exact List.forall_mem_append.2 ⟨h, List.forall_mem_singleton.2 hq⟩
  | some r =>
    obtain ⟨hmem, hmatch, hmax⟩ := h
    exact ⟨List.mem_append_left _ hmem, hmatch,
      List.forall_mem_append.2 ⟨hmax, List.forall_mem_singleton.2 fun hqm => absurd hqm hq⟩⟩

theorem SelectionOk.concat_match {best : Option IoRow} (h : SelectionOk w rows best)
    (hq : w &&& q.mask = q.pattern) : SelectionOk w (rows ++ [q]) (betterRow best q) := by
  cases best with
  | none =>
    exact ⟨List.mem_concat_self, hq,
      List.forall_mem_append.2 ⟨fun p hp hpm => absurd hpm (h p hp), List.forall_mem_singleton.2 fun _ => le_rfl⟩⟩
  | some r =>
    obtain ⟨hmem, hmatch, hmax⟩ := h
    dsimp only [betterRow]
    split
    case isTrue hlt =>
      exact ⟨List.mem_concat_self, hq, List.forall_mem_append.2
        ⟨fun p hp hpm => (hmax p hp hpm).trans hlt.le, List.forall_mem_singleton.2 fun _ => le_rfl⟩⟩
    case isFalse hge =>
      exact ⟨List.mem_append_left _ hmem, hmatch,
        List.forall_mem_append.2 ⟨hmax, List.forall_mem_singleton.2 fun _ => Nat.le_of_not_lt hge⟩⟩

theorem selectRow_concat :
    selectRow w (rows ++ [q]) =
      if w &&& q.mask = q.pattern then betterRow (selectRow w rows) q else selectRow w rows :=
  List.foldl_append

theorem selectRow_ok (w : IoWord) (rows : List IoRow) : SelectionOk w rows (selectRow w rows) := by
  induction rows using List.reverseRecOn with
  | nil => exact fun _ hq => absurd hq List.not_mem_nil
  | append_singleton rows q ih =>
    rw [selectRow_concat]
    split
    case isTrue hq => exact ih.concat_match hq
    case isFalse hq => exact ih.concat_mismatch hq

theorem heaviestMatch_of_selectRow (h : selectRow w rows = some r) : HeaviestMatch w rows r := by
  have hok := selectRow_ok w rows
  rwa [h] at hok

end Selection

/-! ## The rows of the table -/

/-- A transaction is its direction, port and data byte packed again (R110). -/
theorem ioWord_fields (w : IoWord) : ioWord w.isWrite w.port w.data = w := by
  apply BitVec.eq_of_getLsbD_eq
  intro i hi
  simp only [ioWord, IoWord.isWrite, IoWord.port, IoWord.data, BitVec.getLsbD_append, BitVec.getLsbD_extractLsb',
    BitVec.getLsbD_ofBool]
  by_cases h : i < 8
  · simp [h]
  · by_cases h' : i - 8 < 8
    · simp [h, h', show 8 + (i - 8) = i by omega]
    · obtain rfl : i = 16 := by omega
      simp

/-- No row of the table looks at the data byte (R110). -/
theorem ioRows_mask_eq : ∀ r ∈ ioRows, r.mask = r.mask.extractLsb' 8 9 ++ (0 : Byte) := by
  decide +kernel

theorem ioWord_and_mask {r : IoRow} (hr : r ∈ ioRows) (d : Bool) (p v : Byte) :
    ioWord d p v &&& r.mask = ioWord d p 0 &&& r.mask :=
  (Laws.ioRow_masked d p v _ _ _ rfl (ioRows_mask_eq r hr)).trans
    (Laws.ioRow_masked d p 0 _ _ _ rfl (ioRows_mask_eq r hr)).symm

/-- The rows have masks of different weights, or ask for different values of a bit that both look at. -/
@[reducible] def IoRow.Separated (r q : IoRow) : Prop :=
  r.pattern &&& q.mask = q.pattern &&& r.mask → maskWeight r.mask ≠ maskWeight q.mask

theorem IoRow.separated_symm : Std.Symm IoRow.Separated :=
  ⟨fun _ _ h hagree hweight => h hagree.symm hweight.symm⟩

theorem ioRows_separated : ioRows.Pairwise IoRow.Separated := by
  decide +kernel

/-- Rows that match one word agree on the bits they both look at. -/
theorem patterns_agree {w : IoWord} {r q : IoRow} (hr : w &&& r.mask = r.pattern) (hq : w &&& q.mask = q.pattern) :
    r.pattern &&& q.mask = q.pattern &&& r.mask := by
  rw [← hr, ← hq, BitVec.and_assoc, BitVec.and_assoc, BitVec.and_comm r.mask]

/-! ## The obligation -/

/-- Settles O5: the row of the direction and port is the heaviest match, and matching rows never weigh the same. -/
theorem tableDecodePrecedence : Obligations.TableDecodePrecedence := by
  intro w
  refine ⟨?selected, ioRows_separated.imp fun h hw ⟨hr, hq⟩ => h (patterns_agree hr hq) hw⟩
  rw [← ioWord_fields w]
  generalize w.isWrite = d, w.port = p, w.data = v
  obtain ⟨r, hrow, -⟩ := (Option.any_eq_true _ _).1 (rowOf_covers d p)
  obtain ⟨hmem, hmatch, hmax⟩ := heaviestMatch_of_selectRow (w := ioWord d p 0) hrow
  refine ⟨r, hmem, (ioWord_and_mask hmem d p v).trans hmatch, ?_, fun q hq hqm => ?_⟩
  · rw [decodeIo_ioWord, hrow, ioWord_port, ioWord_data]
    rfl
  · exact hmax q hq ((ioWord_and_mask hq d p v).symm.trans hqm)

end Sys2Proof
end

section
/-! Proofs of the statements of spec/30_encoding.md, decoding what the encoder wrote: a transaction by the row of its
direction and port (R110), a hook by its identifier and the readers of its arguments (R114, R115). -/

namespace Sys2Proof

/-! ## The rows that carry a port (R191 to R194) -/

/-- Two rows of the table that match one word and have masks of equal weight are the same row. -/
theorem ioRows_match_unique {w : IoWord} {r q : IoRow} (hr : r ∈ ioRows) (hq : q ∈ ioRows)
    (hrm : w &&& r.mask = r.pattern) (hqm : w &&& q.mask = q.pattern) (hw : maskWeight r.mask = maskWeight q.mask) :
    r = q := by
  have := IoRow.separated_symm
  by_contra hne
  exact ioRows_separated.forall hr hq hne (patterns_agree hrm hqm) hw

/-- The row of one port is for no port of the APU and for no unmapped port. -/
theorem ioRows_named_port : ∀ r ∈ ioRows, r.mask = 0x1FF00 →
    apuPort r.pattern.port = false ∧ unmappedPort r.pattern.port = false := by
  decide +kernel

section Covers

variable {r : IoRow} {d : Bool} {p : Byte}

theorem IoRow.covers_iff : r.covers d p = true ↔ ioWord d p 0 &&& r.mask = r.pattern ∧
    (r.mask = 0x1FF00 ∨ (r.mask = 0x1E000 ∧ apuPort p = true) ∨ (r.mask = 0x10000 ∧ unmappedPort p = true)) := by
  simp [IoRow.covers, or_assoc]

theorem IoRow.named_port_of_covers (hr : r ∈ ioRows) (hm : r.mask = 0x1FF00)
    (hmatch : ioWord d p 0 &&& r.mask = r.pattern) :
    apuPort p = false ∧ unmappedPort p = false := by
  have hport : r.pattern.port = p := by rw [← hmatch, hm, ioWord_and_dirPortMask, ioWord_port]
  exact hport ▸ ioRows_named_port r hr hm

theorem IoRow.mask_of_apuPort (hr : r ∈ ioRows) (hc : r.covers d p = true) (hp : apuPort p = true) :
    r.mask = 0x1E000 := by
  obtain ⟨hmatch, hm | ⟨hm, -⟩ | ⟨-, hu⟩⟩ := IoRow.covers_iff.1 hc
  · simp [(named_port_of_covers hr hm hmatch).1] at hp
  · exact hm
  · simp [Machine.apuPort_of_unmapped hu] at hp

theorem IoRow.mask_of_unmappedPort (hr : r ∈ ioRows) (hc : r.covers d p = true) (hp : unmappedPort p = true) :
    r.mask = 0x10000 := by
  obtain ⟨hmatch, hm | ⟨-, ha⟩ | ⟨hm, -⟩⟩ := IoRow.covers_iff.1 hc
  · simp [(named_port_of_covers hr hm hmatch).2] at hp
  · simp [Machine.apuPort_of_unmapped hp] at ha
  · exact hm

/-- Where every row for a pair has one mask, the row that matches under that mask is selected. -/
theorem rowOf_of_mask (hr : r ∈ ioRows) (hmatch : ioWord d p 0 &&& r.mask = r.pattern)
    (hmask : ∀ q ∈ ioRows, q.covers d p = true → q.mask = r.mask) : rowOf (BitVec.ofBool d ++ p) = some r := by
  obtain ⟨q, hq, hqc⟩ := (Option.any_eq_true _ _).1 (rowOf_covers d p)
  have hqr : q.mask = r.mask := hmask q (mem_of_selectRow hq) hqc
  rw [hq, ioRows_match_unique (mem_of_selectRow hq) hr (IoRow.covers_iff.1 hqc).1 hmatch (congrArg maskWeight hqr)]

end Covers

theorem apuPort_pattern : ∀ (d : Bool) (p : Byte), apuPort p = true → ioWord d p 0 &&& 0x1E000 = ioWord d 0x60 0 := by
  decide +kernel

theorem direction_pattern : ∀ (d : Bool) (p : Byte), ioWord d p 0 &&& 0x10000 = ioWord d 0x00 0 := by
  decide +kernel

section PortRows

variable {p : Byte}

theorem rowOf_inApu (h : apuPort p = true) :
    rowOf (BitVec.ofBool false ++ p) = some ⟨0x06000#17, 0x1E000#17, fun p _ => .inApu p⟩ :=
  rowOf_of_mask (by simp [ioRows, busRows]) (apuPort_pattern false p h)
    fun _ hq hc => IoRow.mask_of_apuPort hq hc h

theorem rowOf_outApu (h : apuPort p = true) :
    rowOf (BitVec.ofBool true ++ p) = some ⟨0x16000#17, 0x1E000#17, fun p v => .outApu p v⟩ :=
  rowOf_of_mask (by simp [ioRows, busRows]) (apuPort_pattern true p h)
    fun _ hq hc => IoRow.mask_of_apuPort hq hc h

theorem rowOf_inUnmapped (h : unmappedPort p = true) :
    rowOf (BitVec.ofBool false ++ p) = some ⟨0x00000#17, 0x10000#17, fun p _ => .inUnmapped p⟩ :=
  rowOf_of_mask (by simp [ioRows, busRows]) (direction_pattern false p)
    fun _ hq hc => IoRow.mask_of_unmappedPort hq hc h

theorem rowOf_outUnmapped (h : unmappedPort p = true) :
    rowOf (BitVec.ofBool true ++ p) = some ⟨0x10000#17, 0x10000#17, fun p v => .outUnmapped p v⟩ :=
  rowOf_of_mask (by simp [ioRows, busRows]) (direction_pattern true p)
    fun _ hq hc => IoRow.mask_of_unmappedPort hq hc h

end PortRows

/-! ## Transactions (R110) -/

theorem decode_ioWord_of_row {r : IoRow} {d : Bool} {p : Byte} (h : rowOf (BitVec.ofBool d ++ p) = some r) (v : Byte) :
    decode (.io (ioWord d p v)) = .ok (r.build p v) := by
  simp only [decode, decodeIo_ioWord, h, Option.map_some]

theorem decode_encode_io {i : Instr} {w : IoWord} (hi : encode i = .io w) (hwf : i.wellFormed = true) :
    decode (.io w) = .ok i := by
  cases i with
  | inApu port =>
    cases hi
    exact decode_ioWord_of_row (rowOf_inApu hwf) 0
  | outApu port v =>
    cases hi
    exact decode_ioWord_of_row (rowOf_outApu hwf) v
  | inUnmapped port =>
    cases hi
    exact decode_ioWord_of_row (rowOf_inUnmapped hwf) 0
  | outUnmapped port v =>
    cases hi
    exact decode_ioWord_of_row (rowOf_outUnmapped hwf) v
  | inVdpStatus | inVdpCtrl | inScrollAX | inScrollAY | inScrollBX | inScrollBY | inTmapABase | inTmapBBase | inPatBase
  | inPalAddr | inPalData | inSprCtrl | inSatBase | inSprStatus | inDmaSrcLo | inDmaSrcHi | inDmaDstLo | inDmaDstHi
  | inDmaLenLo | inDmaLenHi | inDmaCtrl | inUnmapped7e | inUnmapped7f | inIrqStatus | inIrqEnable | inIrqAck =>
    cases hi
    exact (decode_ioWord_of_row (by rfl) 0).trans rfl
  | outVdpStatus v | outVdpCtrl v | outScrollAX v | outScrollAY v | outScrollBX v | outScrollBY v | outTmapABase v
  | outTmapBBase v | outPatBase v | outPalAddr v | outPalData v | outSprCtrl v | outSatBase v | outSprStatus v
  | outDmaSrcLo v | outDmaSrcHi v | outDmaDstLo v | outDmaDstHi v | outDmaLenLo v | outDmaLenHi v | outDmaCtrl v
  | outUnmapped7e v | outUnmapped7f v | outIrqStatus v | outIrqEnable v | outIrqAck v =>
    cases hi
    exact (decode_ioWord_of_row (by rfl) v).trans rfl
  | _ => nomatch hi

/-! ## Hook requests (R114, R115) -/

/-- A scanline argument is read back. -/
theorem takeScanline_halfBytes (n : Fin 262) (rest : List Byte) :
    takeScanline (halfBytes (BitVec.ofNat 16 n.val) ++ rest) = .ok (n, rest) := by
  have hn : (BitVec.ofNat 16 n.val).toNat = n.val := by simp; omega
  simp [takeScanline, takeHalf_halfBytes, hn]

/-- A visible scanline is read back. -/
theorem takeVisibleLine_byte (n : Fin 192) (rest : List Byte) :
    takeVisibleLine (BitVec.ofNat 8 n.val :: rest) = .ok (n, rest) := by
  have hn : (BitVec.ofNat 8 n.val).toNat = n.val := by simp; omega
  simp [takeVisibleLine, takeByte, hn]

@[simp] theorem Taken.build_ok {α β : Type} (a : α) (rest : List Byte) (f : α → β) :
    Taken.build (.ok (a, rest)) f = .ok (f a, rest) := rfl

@[simp] theorem Taken.andThen_ok {α β : Type} (a : α) (rest : List Byte) (f : α → List Byte → Taken β) :
    Taken.andThen (.ok (a, rest)) f = f a rest := rfl

/-- The operation is read back from its hook request, and what follows the request is left unread. -/
theorem decodeHook_encode {i : Instr} {bytes : List Byte} (hi : encode i = .hook bytes) (rest : List Byte) :
    decodeHook (bytes ++ rest) = .ok (i, rest) := by
  cases i with
  | powerOn | reset | stepFrame | scanlineStep | irqReadStatus | irqReadEnable | irqPreCpuUpdate | irqPostCpuUpdate
  | irqIntLineAsserted | framebufferRead | irqRaise | irqAck | irqWriteEnable =>
    cases hi
    rfl
  | apuAdvance | cpuStep | popAudioFrames =>
    cases hi
    simp [decodeHook, decodeHookOp, takeNat_natBytes]
  | loadRom image =>
    cases hi
    simp [decodeHook, decodeHookOp, takeNat_natBytes, takeBytes_append]
  | ringPush frames =>
    cases hi
    simp [decodeHook, decodeHookOp, takeNat_natBytes, takeFrames_framesBytes]
  | onScanlineStart n =>
    cases hi
    simp [decodeHook, decodeHookOp, takeScanline_halfBytes]
  | renderScanline n =>
    cases hi
    simp [decodeHook, decodeHookOp, takeVisibleLine_byte]
  | dmaBoundary n vblank frame =>
    cases hi
    simp [decodeHook, decodeHookOp, takeScanline_halfBytes, takeBool_boolByte, takeNat_natBytes]
  | dmaExecute src dst len pal =>
    cases hi
    simp [decodeHook, decodeHookOp, takeHalf_halfBytes, takeBool_boolByte]
  | setHostButtons b =>
    cases hi
    simp [decodeHook, decodeHookOp, takeByte, buttonsOf_buttonsByte]
  | _ => nomatch hi

theorem decode_hook_of_exact {bytes : List Byte} {i : Instr} (h : decodeHook bytes = .ok (i, [])) :
    decode (.hook bytes) = .ok i := by
  simp [decode, h]

/-! ## The obligations -/

/-- Settles O4: a transaction by the row of its pair, a hook by the readers of its arguments, nothing left over. -/
theorem encodeDecodeRoundTrip : Obligations.EncodeDecodeRoundTrip := by
  refine ⟨fun i hwf => ?_, fun i bytes rest hi => decodeHook_encode hi rest⟩
  cases hi : encode i with
  | io w => exact decode_encode_io hi hwf
  | hook bytes => exact decode_hook_of_exact (by simpa using decodeHook_encode hi [])

/-- Settles O3, by running the decoder on each word. -/
theorem writtenOutWordsDecode : Obligations.WrittenOutWordsDecode :=
  ⟨rfl, rfl, rfl, rfl, rfl, rfl, rfl, rfl, rfl, rfl⟩

end Sys2Proof
end

section
/-! Proofs of the statements of spec/30_encoding.md, completion: each operation of either format has a next state (R117,
R196, R360). -/

namespace Sys2Proof.Machine

theorem exec_loadRom_next (bytes : List Byte) (s : State) : ∃ t, exec (.loadRom bytes) s = .next t := by
  show ∃ t, execLoadRom bytes s = .next t
  unfold execLoadRom
  split <;> exact ⟨_, rfl⟩

theorem exec_of_encode_hook {i : Instr} {bytes : List Byte} (hi : encode i = .hook bytes) (s : State) :
    ∃ t, exec i s = .next t := by
  cases i with
  | loadRom image => exact exec_loadRom_next image s
  | powerOn | reset | stepFrame | scanlineStep | onScanlineStart | renderScanline | dmaBoundary | apuAdvance | irqRaise
  | irqAck | irqWriteEnable | irqReadStatus | irqReadEnable | irqPreCpuUpdate | irqPostCpuUpdate | irqIntLineAsserted
  | cpuStep | ringPush | popAudioFrames | framebufferRead | dmaExecute | setHostButtons => exact ⟨_, rfl⟩
  | _ => nomatch hi

/-- Settles O8: a transaction does what the IO map says of it, or leaves the block; each hook gives its next state. -/
theorem everyOperationCompletes : Obligations.EveryOperationCompletes := by
  intro i s
  cases hi : encode i with
  | io w =>
    cases hwf : i.wellFormed with
    | true => exact ⟨_, exec_of_encode_io hi hwf s⟩
    | false =>
      obtain ⟨t, ht, -⟩ := exec_of_not_wellFormed hwf s
      exact ⟨t, ht⟩
  | hook bytes => exact exec_of_encode_hook hi s

end Sys2Proof.Machine
end

section
/-! The cycle budget over scanline steps (spec/40_scheduler.md R132, R139, R142), the line and frame counters (R140,
R141), and the hook at scanline start (R133 to R137). -/

namespace Sys2Proof.Machine

/-! ## What the phases of a scanline step leave -/

theorem State.renderVisible_params (s : State) (n : Fin 262) : (s.renderVisible n).params = s.params := by
  unfold State.renderVisible
  split
  · exact (s.renderScanline_rest _).1
  · rfl

theorem State.dmaPhase_params (s : State) (n : Fin 262) : (s.dmaPhase n).params = s.params := by
  rw [State.dmaPhase, State.dmaBoundary_rest]

theorem State.consumerPops_params (s : State) : s.consumerPops.params = s.params := by
  rw [State.consumerPops_rest]

theorem State.advanceLine_params (s : State) : s.advanceLine.params = s.params := by
  unfold State.advanceLine
  split <;> rfl

theorem State.onScanlineStart_params (s : State) (n : Fin 262) : (s.onScanlineStart n).params = s.params := by
  rw [State.onScanlineStart_rest]

theorem State.cpuPhase_params (s : State) (cycles : Nat) : (s.cpuPhase cycles).params = s.params :=
  (s.runSlice_frame cycles).params

/-- The parameters are fixed (R8). -/
theorem State.scanlineStep_params (s : State) : s.scanlineStep.params = s.params := by
  rw [State.scanlineStep, State.advanceLine_params, State.apuAdvance_rest, State.consumerPops_params,
    State.dmaPhase_params, State.renderVisible_params, State.recompute_params, State.cpuPhase_params,
    State.onScanlineStart_params, State.takeBudget_params]

/-! ## The timing drift bound (R142) -/

/-- What was executed, with the fraction kept and less the debt owed. -/
def State.timeAccount (s : State) : Rat :=
  s.sched.totalTstatesExecuted + s.sched.cpuCycleAccumulator - s.sched.cpuCycleDebt

theorem State.timeAccount_resetBlock (s : State) : s.resetBlock.timeAccount = 0 := by
  simp [State.timeAccount, Scheduler.reset]

theorem State.timeAccount_scanlineStep (s : State) : s.scanlineStep.timeAccount = s.timeAccount + s.params.cpl :=
  s.scanlineStep_drift

theorem State.timeAccount_iterate (k : Nat) : ∀ s : State,
    (State.scanlineStep^[k] s).timeAccount = s.timeAccount + k * s.params.cpl := by
  induction k with
  | zero => intro s; simp
  | succ k ih =>
    intro s
    calc (State.scanlineStep^[k + 1] s).timeAccount
        _ = s.scanlineStep.timeAccount + k * s.scanlineStep.params.cpl := ih s.scanlineStep
        _ = s.timeAccount + s.params.cpl + k * s.params.cpl := by
          rw [State.timeAccount_scanlineStep, State.scanlineStep_params]
        _ = s.timeAccount + (k + 1 : Nat) * s.params.cpl := by push_cast; ring

/-- Settles O35, by induction on the lines; after a reset the account is empty. -/
theorem driftIdentity : Obligations.DriftIdentity := by
  intro s lines
  refine ⟨⟨_, runOps_scanlineStep lines s, State.timeAccount_iterate lines s⟩,
    ⟨_, runOps_scanlineStep lines s.resetBlock, ?_⟩⟩
  have h := State.timeAccount_iterate lines s.resetBlock
  rwa [State.timeAccount_resetBlock, State.resetBlock_params, zero_add] at h

/-! ## The budget of a line (R132) -/

/-- The budget before repayment is the floor of the accumulator (R132). -/
theorem State.rawBudget_eq_floor (s : State) : s.rawBudget = ⌊s.accumulatorPlus⌋₊ := rfl

/-- Settles O34: 341 ≤ `P_CPL` and `P_CPL` + 1 < 343, so the floor is 341 or 342. -/
theorem budgetOfALine : Obligations.BudgetOfALine := by
  intro s hcpl hnonneg hbelow
  have hplus : s.accumulatorPlus = s.sched.cpuCycleAccumulator + 1342329375 / 3933566 := by
    rw [State.accumulatorPlus, hcpl]
  have hpos : 0 ≤ s.accumulatorPlus := by rw [hplus]; linarith
  have hlow : 341 ≤ s.rawBudget := by
    rw [State.rawBudget_eq_floor, Nat.le_floor_iff hpos, hplus]
    push_cast
    linarith
  have hhigh : s.rawBudget < 343 := by
    rw [State.rawBudget_eq_floor, Nat.floor_lt hpos, hplus]
    push_cast
    linarith
  have hle : (s.rawBudget : Rat) ≤ s.accumulatorPlus := by
    rw [State.rawBudget_eq_floor]
    exact Nat.floor_le hpos
  have hlt : s.accumulatorPlus < s.rawBudget + 1 := by
    rw [State.rawBudget_eq_floor]
    exact Nat.lt_floor_add_one _
  have hacc : s.scanlineStep.sched.cpuCycleAccumulator = s.accumulatorPlus - s.rawBudget := by
    rw [State.scanlineStep_sched]
  refine ⟨s.scanlineStep, s.rawBudget, rfl, by omega, hacc, ?nonneg, ?below, ?record⟩
  case nonneg => rw [hacc]; linarith
  case below => rw [hacc]; linarith
  case record =>
    rw [State.scanlineStep_sched]
    rfl

/-! ## The debt (R139) -/

/-- A debt within the line is repaid whole (R132). -/
theorem State.debtPaid_of_le {s : State} (h : s.sched.cpuCycleDebt ≤ s.rawBudget) :
    s.debtPaid = s.sched.cpuCycleDebt :=
  Nat.min_eq_left h

theorem State.lineExecuted_lt (s : State) (h : 1 ≤ s.params.maxOvershoot) :
    s.lineExecuted < s.lineBudget + s.params.maxOvershoot := by
  have hparams : (s.takeBudget.onScanlineStart s.sched.currentScanline).params = s.params :=
    State.onScanlineStart_params _ _
  rw [← hparams] at h ⊢
  exact State.executedOf_lt _ _ h

/-- Settles O36: the line is long enough to repay the debt, so only its own overshoot is left. -/
theorem debtIsOneOvershoot : Obligations.DebtIsOneOvershoot := by
  intro s hvalid hnonneg hcpl hdebt
  have hmax : s.params.maxOvershoot ≤ s.rawBudget := by
    rw [State.rawBudget_eq_floor]
    exact Nat.le_floor (hcpl.trans (le_add_of_nonneg_left hnonneg))
  have hpaid : s.debtPaid = s.sched.cpuCycleDebt := State.debtPaid_of_le (hdebt.le.trans hmax)
  have hran : s.lineBudget ≤ s.lineExecuted := State.le_executedOf _ _
  have hlt := s.lineExecuted_lt hvalid.overshoot_pos
  have howed : s.scanlineStep.sched.cpuCycleDebt = s.lineExecuted - s.lineBudget := by
    rw [State.scanlineStep_sched, hpaid, Nat.sub_self, Nat.zero_add]
  refine ⟨s.scanlineStep, s.lineExecuted, rfl, ?total, hran, howed, by omega⟩
  case total => rw [State.scanlineStep_sched]

/-! ## Lines and frames (R140, R141) -/

/-- How many lines have gone by since frame 0 began. -/
def State.linesPassed (s : State) : Nat := 262 * s.sched.frameCounter + s.sched.currentScanline.val

theorem State.scanlineStep_frame (s : State) :
    s.scanlineStep.sched.frameCounter =
      if s.sched.currentScanline.val = 261 then s.sched.frameCounter + 1 else s.sched.frameCounter := by
  rw [State.scanlineStep_sched]

theorem State.linesPassed_scanlineStep (s : State) : s.scanlineStep.linesPassed = s.linesPassed + 1 := by
  have hline := s.scanlineStep_line
  have hframe := s.scanlineStep_frame
  have hlt := s.sched.currentScanline.isLt
  unfold State.linesPassed
  split at hframe <;> omega

theorem State.linesPassed_iterate (k : Nat) (s : State) :
    (State.scanlineStep^[k] s).linesPassed = s.linesPassed + k := by
  induction k with
  | zero => rfl
  | succ k ih => rw [Function.iterate_succ_apply', State.linesPassed_scanlineStep, ih, Nat.add_assoc]

theorem State.scanlines_eq_iterate (s : State) (k : Nat) : s.scanlines k = State.scanlineStep^[k] s := by
  induction k with
  | zero => rfl
  | succ k ih => rw [State.scanlines, ih, Function.iterate_succ_apply']

/-- A frame step ends on the line it began at, one frame later (R140). -/
theorem State.scanlines_frame (s : State) :
    (s.scanlines Config.lines).sched.currentScanline = s.sched.currentScanline ∧
      (s.scanlines Config.lines).sched.frameCounter = s.sched.frameCounter + 1 := by
  have hpassed : (s.scanlines Config.lines).linesPassed = s.linesPassed + 262 := by
    rw [State.scanlines_eq_iterate]
    exact State.linesPassed_iterate 262 s
  have hlt := s.sched.currentScanline.isLt
  have hlt' := (s.scanlines Config.lines).sched.currentScanline.isLt
  unfold State.linesPassed at hpassed
  rw [Fin.ext_iff]
  omega

/-- Settles O38, the frame by counting the lines passed. -/
theorem linesAndFramesAdvance : Obligations.LinesAndFramesAdvance := by
  intro s
  refine ⟨⟨s.scanlineStep, rfl, ?line⟩, ⟨s.scanlines Config.lines, rfl, ?steps, s.scanlines_frame⟩⟩
  case line =>
    have hline := s.scanlineStep_line
    have hframe := s.scanlineStep_frame
    have hlt := s.sched.currentScanline.isLt
    split at hframe <;> rename_i hlast
    · rw [if_pos hlast]
      omega
    · rw [if_neg hlast]
      omega
  case steps =>
    rw [State.scanlines_eq_iterate]
    exact runOps_scanlineStep 262 s

/-! ## The hook at scanline start (R133 to R137) -/

theorem State.startVblankAt_eq (s : State) (n : Fin 262) :
    s.startVblankAt n =
      { s with
        ppu.vblank := if n.val = 192 then true else s.ppu.vblank
        ppu.sprOvfLatch := if n.val = 192 then false else s.ppu.sprOvfLatch
        irq.pending := if n.val = 192 then s.irq.pending ||| 0x01 else s.irq.pending
        sched.vblankLatchLine := if n.val = 192 then some 192 else s.sched.vblankLatchLine } := by
  unfold State.startVblankAt Config.vblankLine
  split <;> rfl

theorem State.endVblankAt_eq (s : State) (n : Fin 262) :
    s.endVblankAt n = { s with ppu.vblank := if n.val = 0 then false else s.ppu.vblank } := by
  unfold State.endVblankAt
  split <;> rfl

/-- Raising under a condition is raising a mask that is 0 where the condition fails. -/
theorem ite_or_eq_or_ite (c : Prop) [Decidable c] (pending mask : Byte) :
    (if c then pending ||| mask else pending) = pending ||| (if c then mask else 0) := by
  split <;> simp

/-- Lines 192 and 0 are two lines, so the order of setting and clearing does not matter. -/
theorem vblank_of_line (n : Nat) (before : Bool) :
    (if n = 0 then false else if n = 192 then true else before) =
      if n = 192 then true else if n = 0 then false else before := by
  split
  · rw [if_neg (by omega)]
  · rfl

/-- The whole effect of the hook. -/
theorem State.onScanlineStart_eq (s : State) (n : Fin 262) :
    s.onScanlineStart n =
      State.recompute
        { s with
          ppu.active := s.ppu.pending
          ppu.activePal := s.ppu.stagedPal
          ppu.activeArgb := Vector.ofFn fun e => argb s.ppu.stagedPal e
          ppu.vblank := if n.val = 192 then true else if n.val = 0 then false else s.ppu.vblank
          ppu.sprOvfLatch := if n.val = 192 then false else s.ppu.sprOvfLatch
          irq.pending := s.irq.pending ||| (if n.val = 192 then 0x01 else 0) |||
            (if s.params.synthTimer = true ∧ n.val = 10 then 0x02 else 0)
          sched.vblankLatchLine := if n.val = 192 then some 192 else s.sched.vblankLatchLine } := by
  rw [State.onScanlineStart, State.startVblankAt_eq, State.endVblankAt_eq, State.raiseIf_eq]
  simp only [State.commit, Config.synthTimerLine, Bool.and_eq_true, beq_iff_eq, vblank_of_line, ite_or_eq_or_ite]
  rfl

/-- Settles O32: the colours are those of the staged palette, entry by entry. -/
theorem scanlineStartHook : Obligations.ScanlineStartHook := by
  intro s n
  refine ⟨s.onScanlineStart n, rfl, ?state, fun e => ?colour⟩
  case state =>
    rw [State.onScanlineStart_eq]
    rfl
  case colour =>
    rw [State.onScanlineStart_eq]
    exact Vector.getElem_ofFn _

end Sys2Proof.Machine
end

section
/-! The picture of a line over a scanline step: what the CPU does in its slice reaches the staged side of the PPU only
(spec/42_bus_io.md R282), and a line that is drawn changes no VRAM (spec/43_dma.md R226). -/

namespace Sys2Proof.Machine

/-! ## A line drawn, as a function of the PPU (R300, R304, R309, R311) -/

/-- A line drawn: its row of the framebuffer, and the latch where a 17th candidate is found. -/
def Ppu.drawLine (p : Ppu) (evalWhenBlank : Bool) (n : Fin 262) : Ppu :=
  if h : n.val < 192 then
    { p with
      sprOvfLatch :=
        p.sprOvfLatch || ((displayEnabled p.active || evalWhenBlank) && (selectSprites p n).overflow)
      fb := p.fb.set n (if displayEnabled p.active then renderedLine p n else blankLine p) }
  else p

theorem State.latchOverflow_ppu_eq (s : State) (overflow : Bool) :
    (s.latchOverflow overflow).ppu = { s.ppu with sprOvfLatch := s.ppu.sprOvfLatch || overflow } := by
  rw [State.latchOverflow_ppu]
  cases overflow with
  | false => simp
  | true => simp

theorem State.renderVisible_ppu (s : State) (n : Fin 262) :
    (s.renderVisible n).ppu = s.ppu.drawLine s.params.sprEvalWhenBlank n := by
  unfold State.renderVisible Ppu.drawLine
  split
  · unfold State.renderScanline
    by_cases h : displayEnabled s.ppu.active = true
    · simp only [h, if_true, State.writeLine_ppu, State.latchOverflow_ppu_eq, Bool.true_or, Bool.true_and]
    · simp only [h, if_false, State.writeLine_ppu, State.latchOverflow_ppu_eq, Bool.false_or, Bool.false_eq_true]
  · rfl

/-- The PPU with another staged side: what ports and copies can write and no rendering reads (R29, R34, R37, R282). -/
def Ppu.withStaged (p : Ppu) (pending : PpuRegs) (stagedPal : Memory) (palAddr : Byte) : Ppu :=
  { p with pending := pending, stagedPal := stagedPal, palAddr := palAddr }

section Staged

variable (p : Ppu) (pending : PpuRegs) (stagedPal : Memory) (palAddr : Byte)

theorem selectFrom_withStaged (n : Nat) (entries : List Nat) : ∀ sel,
    selectFrom (p.withStaged pending stagedPal palAddr) n entries sel = selectFrom p n entries sel := by
  have candidate : ∀ i, isCandidate (p.withStaged pending stagedPal palAddr) n i = isCandidate p n i := fun _ => rfl
  induction entries with
  | nil => exact fun _ => rfl
  | cons i rest ih => intro sel; simp only [selectFrom, candidate, ih]

theorem selectSprites_withStaged (n : Nat) :
    selectSprites (p.withStaged pending stagedPal palAddr) n = selectSprites p n := by
  unfold selectSprites
  rw [selectFrom_withStaged]
  rfl

theorem renderedLine_withStaged (n : Nat) :
    renderedLine (p.withStaged pending stagedPal palAddr) n = renderedLine p n := by
  simp only [renderedLine, selectSprites_withStaged]
  rfl

/-- Rendering reads and writes nothing that is staged (R282, R300). -/
theorem Ppu.drawLine_withStaged (evalWhenBlank : Bool) (n : Fin 262) :
    (p.withStaged pending stagedPal palAddr).drawLine evalWhenBlank n =
      (p.drawLine evalWhenBlank n).withStaged pending stagedPal palAddr := by
  unfold Ppu.drawLine
  split
  · rw [selectSprites_withStaged, renderedLine_withStaged]
    rfl
  · rfl

end Staged

/-- A drawn line leaves the active side, VRAM and the VBlank flag. -/
theorem Ppu.drawLine_rest (p : Ppu) (evalWhenBlank : Bool) (n : Fin 262) :
    p.drawLine evalWhenBlank n =
      { p with
        sprOvfLatch := (p.drawLine evalWhenBlank n).sprOvfLatch
        fb := (p.drawLine evalWhenBlank n).fb } := by
  unfold Ppu.drawLine
  split <;> rfl

/-! ## The PPU over a scanline step (R131) -/

/-- Of the PPU the CPU reaches the staged side only. -/
theorem State.CpuFrame.ppu_eq {s t : State} (h : s.CpuFrame t) :
    t.ppu = s.ppu.withStaged t.ppu.pending t.ppu.stagedPal t.ppu.palAddr := by
  simp only [Ppu.withStaged, ← h.active, ← h.activePal, ← h.activeArgb, ← h.vram, ← h.vblank, ← h.sprOvfLatch, ← h.fb]

/-- The state after step 2. -/
def State.lineStart (s : State) : State := s.takeBudget.onScanlineStart s.sched.currentScanline

/-- The state after step 5. -/
def State.lineDrawn (s : State) : State :=
  (s.lineStart.cpuPhase s.lineBudget).recompute.renderVisible s.sched.currentScanline

/-- The PPU that the hook leaves, with its line drawn before any slice of the CPU. -/
def State.linePicture (s : State) : Ppu :=
  s.lineStart.ppu.drawLine s.params.sprEvalWhenBlank s.sched.currentScanline

/-- The picture of the line is fixed by the hook; the slice may change what is staged. -/
theorem State.lineDrawn_ppu (s : State) :
    s.lineDrawn.ppu =
      s.linePicture.withStaged (s.lineStart.runSlice s.lineBudget).ppu.pending
        (s.lineStart.runSlice s.lineBudget).ppu.stagedPal (s.lineStart.runSlice s.lineBudget).ppu.palAddr := by
  have hparams : (s.lineStart.cpuPhase s.lineBudget).recompute.params = s.params :=
    (State.cpuPhase_params _ _).trans (State.onScanlineStart_params _ _)
  have hppu : (s.lineStart.cpuPhase s.lineBudget).recompute.ppu = (s.lineStart.runSlice s.lineBudget).ppu := rfl
  rw [State.lineDrawn, State.renderVisible_ppu, hparams, hppu, (State.runSlice_frame _ _).ppu_eq,
    Ppu.drawLine_withStaged]
  rfl

theorem State.advanceLine_ppu (s : State) : s.advanceLine.ppu = s.ppu := by
  unfold State.advanceLine
  split <;> rfl

/-- After the boundary the step leaves the PPU. -/
theorem State.scanlineStep_ppu (s : State) :
    s.scanlineStep.ppu = (s.lineDrawn.dmaPhase s.sched.currentScanline).ppu := by
  rw [State.scanlineStep, State.advanceLine_ppu, State.apuAdvance_rest, State.consumerPops_rest]
  rfl

/-! ## DMA only in VBlank (R226) -/

/-- The hook of a visible line leaves the VBlank flag down, where it was in its phase (R143). -/
theorem State.VblankPhase.lineStart_vblank {s : State} (h : s.VblankPhase) (hline : s.sched.currentScanline.val < 192) :
    s.lineStart.ppu.vblank = false := by
  rw [State.lineStart, (State.onScanlineStart_flags _ _).1, if_neg (by omega)]
  split
  · rfl
  · rw [← Bool.not_eq_true]
    intro hset
    have := h.1 hset
    omega

theorem State.lineStart_vram (s : State) : s.lineStart.ppu.vram = s.ppu.vram := by
  rw [State.lineStart, State.onScanlineStart_eq]
  rfl

theorem State.lineDrawn_vblank (s : State) : s.lineDrawn.ppu.vblank = s.lineStart.ppu.vblank := by
  rw [State.lineDrawn_ppu, State.linePicture, Ppu.drawLine_rest]
  rfl

theorem State.lineDrawn_vram (s : State) : s.lineDrawn.ppu.vram = s.ppu.vram := by
  rw [State.lineDrawn_ppu, State.linePicture, Ppu.drawLine_rest]
  exact s.lineStart_vram

/-- Settles O31: the boundary of a visible line finds the flag down, and no other phase writes VRAM. -/
theorem dmaOnlyInVblank : Obligations.DmaOnlyInVblank := by
  refine ⟨fun s n frame => ⟨_, rfl, (s.dmaBoundary_false n frame).1⟩, fun s hphase hline => ⟨_, rfl, ?_⟩⟩
  have hdown : s.lineDrawn.ppu.vblank = false := s.lineDrawn_vblank.trans (hphase.lineStart_vblank hline)
  rw [State.scanlineStep_ppu, State.dmaPhase, hdown, (State.dmaBoundary_false _ _ _).1]
  exact s.lineDrawn_vram

/-! ## The staging law (R282) -/

/-- What a scanline step shows is the picture its hook fixed; the boundary reaches the staged palette and VRAM only. -/
theorem State.scanlineStep_picture (s : State) :
    s.scanlineStep.ppu.fb = s.linePicture.fb ∧ s.scanlineStep.ppu.sprOvfLatch = s.linePicture.sprOvfLatch ∧
      s.scanlineStep.ppu.active = s.linePicture.active ∧ s.scanlineStep.ppu.activePal = s.linePicture.activePal := by
  rw [State.scanlineStep_ppu, State.dmaPhase, State.dmaBoundary_rest, State.lineDrawn_ppu]
  exact ⟨rfl, rfl, rfl, rfl⟩

/-- The CPU's slices to come do not reach the hook, so not the picture either. -/
theorem State.linePicture_tape (s : State) (tape : List CpuSlice) :
    State.linePicture { s with env.cpuTape := tape } = s.linePicture := by
  have hstart : (State.lineStart { s with env.cpuTape := tape }).ppu = s.lineStart.ppu := by
    rw [State.lineStart, State.lineStart, State.onScanlineStart_eq, State.onScanlineStart_eq]
    rfl
  rw [State.linePicture, hstart]
  rfl

/-- Settles O41: either slice leaves the picture that the hook fixed, and the next hook commits what is staged. -/
theorem stagingLaw : Obligations.StagingLaw := by
  intro s c d cs ds
  have hc := State.scanlineStep_picture { s with env.cpuTape := c :: cs }
  have hd := State.scanlineStep_picture { s with env.cpuTape := d :: ds }
  rw [State.linePicture_tape] at hc hd
  obtain ⟨hfb, hlatch, hactive, hpal⟩ := hc
  obtain ⟨hfb', hlatch', hactive', hpal'⟩ := hd
  refine ⟨_, _, rfl, rfl, hfb.trans hfb'.symm, hlatch.trans hlatch'.symm, hactive.trans hactive'.symm,
    hpal.trans hpal'.symm, fun n => ⟨_, rfl, ?_⟩⟩
  obtain ⟨hcommitPal, hcommit, hstaged, hpending⟩ :=
    State.onScanlineStart_agrees (State.scanlineStep { s with env.cpuTape := c :: cs }) n
  exact ⟨hcommit.trans hpending, hcommitPal.trans hstaged⟩

end Sys2Proof.Machine
end

section
/-! The core of the machine, the part that the timing of pops cannot change (spec/40_scheduler.md R146,
spec/46_audio_ring.md R345): every phase of a scanline step acts on it alone. -/

namespace Sys2Proof.Machine

/-! ## The core as a record -/

/-- What `State.SameCore` compares, and reset values in place of the rest: the ring with its positions and counters, and
the agents' interface but the CPU's and the APU's side of it. -/
def State.core (s : State) : State :=
  { s with
    audio := { Audio.powerOn 0 with apuAccum := s.audio.apuAccum }
    env :=
      { Env.reset with
        cpuTape := s.env.cpuTape
        cpuDraws := s.env.cpuDraws
        apuWrites := s.env.apuWrites
        apuFrames := s.env.apuFrames
        apuReads := s.env.apuReads } }

/-- Two states differ only in what the timing of pops can change exactly where their cores are one. -/
theorem State.sameCore_iff {s t : State} : s.SameCore t ↔ t.core = s.core := by
  constructor
  · intro h
    simp only [State.core, h.params, h.sched, h.ppu, h.irq, h.dma, h.apuAccum, h.wram, h.rom, h.cpuTape, h.cpuDraws,
      h.apuWrites, h.apuFrames, h.apuReads]
  · intro h
    have part : ∀ {α : Type} (f : State → α), f t.core = f s.core := fun f => congrArg f h
    exact
      { params := part State.params
        sched := part State.sched
        ppu := part State.ppu
        irq := part State.irq
        dma := part State.dma
        apuAccum := part (·.audio.apuAccum)
        wram := part State.wram
        rom := part State.rom
        cpuTape := part (·.env.cpuTape)
        cpuDraws := part (·.env.cpuDraws)
        apuWrites := part (·.env.apuWrites)
        apuFrames := part (·.env.apuFrames)
        apuReads := part (·.env.apuReads) }

/-- What the operation does to the core, it does from the core alone. -/
def State.ThroughCore (f : State → State) : Prop := ∀ s : State, (f s).core = (f s.core).core

namespace State.ThroughCore

variable {f g : State → State}

theorem sameCore (hf : State.ThroughCore f) {s t : State} (h : s.SameCore t) : (f s).SameCore (f t) := by
  rw [State.sameCore_iff] at h ⊢
  rw [hf t, h, ← hf s]

/-- An operation that leaves the core is of this kind. -/
theorem of_sameCore (h : ∀ s : State, s.SameCore (f s)) : State.ThroughCore f := fun s =>
  (State.sameCore_iff.1 (h s)).trans (State.sameCore_iff.1 (h s.core)).symm

theorem comp (hg : State.ThroughCore g) (hf : State.ThroughCore f) : State.ThroughCore fun s => g (f s) := fun s => by
  calc (g (f s)).core
      _ = (g (f s).core).core := hg (f s)
      _ = (g (f s.core).core).core := by rw [hf s]
      _ = (g (f s.core)).core := (hg (f s.core)).symm

/-- An argument may be read off the core. -/
theorem reading {α : Type} {op : α → State → State} (h : ∀ a, State.ThroughCore (op a)) (x : State → α)
    (hx : ∀ s : State, x s.core = x s) : State.ThroughCore fun s => op (x s) s := fun s => by
  show (op (x s) s).core = (op (x s.core) s.core).core
  rw [hx]
  exact h (x s) s

/-- A condition may be read off the core. -/
theorem ite {c : State → Prop} [DecidablePred c] (hc : ∀ s : State, c s.core ↔ c s) (hf : State.ThroughCore f)
    (hg : State.ThroughCore g) : State.ThroughCore fun s => if c s then f s else g s := fun s => by
  show (if c s then f s else g s).core = (if c s.core then f s.core else g s.core).core
  rw [if_congr (hc s) rfl rfl]
  split
  · exact hf s
  · exact hg s

theorem foldl {α : Type} {op : State → α → State} (h : ∀ a, State.ThroughCore fun s => op s a) (as : List α) :
    State.ThroughCore fun s => as.foldl op s := by
  induction as with
  | nil => exact fun _ => rfl
  | cons a as ih => exact ih.comp (h a)

end State.ThroughCore

/-! ## The scheduler's own phases (R132 to R137, R141) -/

theorem State.takeBudget_throughCore : State.ThroughCore State.takeBudget := fun _ => rfl

theorem State.recompute_throughCore : State.ThroughCore State.recompute := fun _ => rfl

theorem State.raiseIf_throughCore (c : Bool) (mask : Byte) : State.ThroughCore (·.raiseIf c mask) := by
  cases c <;> exact fun _ => rfl

theorem State.startVblankAt_throughCore (n : Fin 262) : State.ThroughCore (·.startVblankAt n) :=
  .ite (c := fun _ => n.val = Config.vblankLine) (fun _ => Iff.rfl) (fun _ => rfl) (fun _ => rfl)

theorem State.endVblankAt_throughCore (n : Fin 262) : State.ThroughCore (·.endVblankAt n) :=
  .ite (c := fun _ => n.val = 0) (fun _ => Iff.rfl) (fun _ => rfl) (fun _ => rfl)

theorem State.onScanlineStart_throughCore (n : Fin 262) : State.ThroughCore (·.onScanlineStart n) := by
  have commit : State.ThroughCore State.commit := fun _ => rfl
  have flags := (State.endVblankAt_throughCore n).comp ((State.startVblankAt_throughCore n).comp commit)
  exact .reading
    (fun timer => State.recompute_throughCore.comp ((State.raiseIf_throughCore timer irqTimer).comp flags))
    (fun s => s.params.synthTimer && n.val == Config.synthTimerLine) (fun _ => rfl)

theorem State.advanceLine_throughCore : State.ThroughCore State.advanceLine :=
  .ite (c := fun s => s.sched.currentScanline.val = 261) (fun _ => Iff.rfl) (fun _ => rfl) (fun _ => rfl)

/-! ## The CPU's slice (R138) -/

theorem State.ioReadEffect_throughCore (p : Byte) : State.ThroughCore (·.ioReadEffect p) :=
  .ite (c := fun _ => p = 0x1F) (fun _ => Iff.rfl) (fun _ => rfl)
    (.ite (c := fun _ => apuPort p = true) (fun _ => Iff.rfl) (fun _ => rfl) (fun _ => rfl))

theorem State.ioWrite_throughCore (p v : Byte) : State.ThroughCore (·.ioWrite p v) := fun s => by
  unfold State.ioWrite
  split
  case h_22 => split <;> rfl
  all_goals rfl

theorem State.memWrite_throughCore (a : Half) (v : Byte) : State.ThroughCore (·.memWrite a v) :=
  .ite (c := fun _ => 0xC000 ≤ a.toNat) (fun _ => Iff.rfl) (fun _ => rfl) (fun _ => rfl)

/-- What the CPU gets back is no part of the core, so only the effects of its actions count. -/
theorem State.cpuAction_throughCore (a : CpuAction) : State.ThroughCore (·.cpuAction a) := by
  cases a with
  | input addr => exact State.ioReadEffect_throughCore (portOf addr)
  | output addr v => exact State.ioWrite_throughCore (portOf addr) v
  | load addr => exact fun _ => rfl
  | store addr v => exact State.memWrite_throughCore addr v
  | sampleInt => exact fun _ => rfl

/-- Taking a slice steps the tape, or the count of draws where the tape is empty. -/
theorem State.takeSlice_eq (s : State) :
    s.takeSlice =
      { s with
        env.cpuTape := s.env.cpuTape.tail
        env.cpuDraws := if s.env.cpuTape = [] then s.env.cpuDraws + 1 else s.env.cpuDraws
        env.cpuSeen := [] } := by
  unfold State.takeSlice
  split <;> simp [*]

theorem State.takeSlice_throughCore : State.ThroughCore State.takeSlice := fun s => by
  rw [State.takeSlice_eq, State.takeSlice_eq]
  rfl

/-- The next slice is drawn from what the CPU can see, which is all in the core (R57, R378). -/
theorem State.nextSlice_core (s : State) (budget : Nat) : s.core.nextSlice budget = s.nextSlice budget := rfl

theorem State.runSlice_throughCore (budget : Nat) : State.ThroughCore (·.runSlice budget) := by
  have actions : ∀ acts, State.ThroughCore fun s => s.takeSlice.cpuActions acts := fun acts =>
    (State.ThroughCore.foldl State.cpuAction_throughCore acts).comp State.takeSlice_throughCore
  exact .ite (c := fun _ => budget = 0) (fun _ => Iff.rfl) State.takeSlice_throughCore
    (.reading actions (fun s => (s.nextSlice budget).actions) fun s =>
      congrArg CpuSlice.actions (s.nextSlice_core budget))

theorem State.cpuPhase_throughCore (cycles : Nat) : State.ThroughCore (·.cpuPhase cycles) := by
  have charge : ∀ executed, State.ThroughCore (·.charge cycles executed) := fun _ _ => rfl
  exact .reading (fun executed => (charge executed).comp (State.runSlice_throughCore cycles))
    (·.executedOf cycles) (fun _ => rfl)

/-! ## Rendering (R300) -/

theorem State.latchOverflow_throughCore (overflow : Bool) : State.ThroughCore (·.latchOverflow overflow) := by
  cases overflow with
  | false => exact fun _ => rfl
  | true =>
    have latch : State.ThroughCore fun s => { s with ppu.sprOvfLatch := true } := fun _ => rfl
    exact .reading (fun raises => (State.raiseIf_throughCore raises irqSprOverflow).comp latch) (·.params.irqSprOvf)
      (fun _ => rfl)

theorem State.renderScanline_throughCore (n : Fin 192) : State.ThroughCore (·.renderScanline n) := by
  have draw : ∀ drawn : Bool × Vector Argb 256,
      State.ThroughCore fun s => (s.latchOverflow drawn.1).writeLine n drawn.2 := fun drawn =>
    .comp (g := (·.writeLine n drawn.2)) (fun _ => rfl) (State.latchOverflow_throughCore drawn.1)
  exact .ite (c := fun s => displayEnabled s.ppu.active = true) (fun _ => Iff.rfl)
    (.reading draw (fun s => ((selectSprites s.ppu n).overflow, renderedLine s.ppu n)) (fun _ => rfl))
    (.reading draw (fun s => (s.params.sprEvalWhenBlank && (selectSprites s.ppu n).overflow, blankLine s.ppu))
      (fun _ => rfl))

theorem State.renderVisible_throughCore (n : Fin 262) : State.ThroughCore (·.renderVisible n) := fun s => by
  unfold State.renderVisible
  split
  · exact State.renderScanline_throughCore _ s
  · rfl

/-! ## The DMA engine (R223, R224) -/

theorem State.dmaMove_throughCore (src dst : Half) (pal : Bool) (i : Nat) :
    State.ThroughCore (·.dmaMove src dst pal i) := by
  cases pal <;> exact fun _ => rfl

theorem State.dmaCopy_throughCore (src dst : Half) (pal : Bool) (k : Nat) :
    State.ThroughCore (·.dmaCopy src dst pal k) := by
  induction k with
  | zero => exact fun _ => rfl
  | succ k ih => exact (State.dmaMove_throughCore src dst pal k).comp ih

theorem State.dmaExecute_throughCore (src dst len : Half) (pal : Bool) :
    State.ThroughCore (·.dmaExecute src dst len pal) :=
  .reading (fun raises => (State.raiseIf_throughCore raises irqDmaDone).comp
    (State.dmaCopy_throughCore src dst pal len.toNat)) (·.params.irqDmaDone) (fun _ => rfl)

theorem State.dmaRunQueued_throughCore : State.ThroughCore State.dmaRunQueued := by
  have done : State.ThroughCore fun s => { s with dma.queue.valid := false, dma.lastTriggerWasQueued := true } :=
    fun _ => rfl
  exact .reading (fun q : DmaQueue => done.comp (State.dmaExecute_throughCore q.src q.dst q.len q.dstIsPalette))
    (·.dma.queue) (fun _ => rfl)

theorem State.dmaRunNow_throughCore : State.ThroughCore State.dmaRunNow := by
  have done : State.ThroughCore fun s => { s with dma.lastTriggerWasQueued := false } := fun _ => rfl
  exact .reading (fun d : Dma => done.comp (State.dmaExecute_throughCore d.src d.dst d.len (dmaDstIsPalette d.ctrl)))
    (·.dma) (fun _ => rfl)

theorem State.dmaRequest_throughCore (vblank : Bool) : State.ThroughCore (·.dmaRequest vblank) :=
  .ite (c := fun s => s.dma.len = 0) (fun _ => Iff.rfl) (fun _ => rfl)
    (.ite (c := fun _ => vblank = true) (fun _ => Iff.rfl) State.dmaRunNow_throughCore
      (.ite (c := fun s => dmaQueueIfNotVblank s.dma.ctrl = true) (fun _ => Iff.rfl) (fun _ => rfl) (fun _ => rfl)))

theorem State.dmaBoundary_throughCore (n : Fin 262) (vblank : Bool) (frame : Nat) :
    State.ThroughCore (·.dmaBoundary n vblank frame) := by
  have consume : State.ThroughCore State.dmaConsumeStart := fun _ => rfl
  exact .ite (c := fun s => n.val = Config.vblankLine ∧ vblank = true ∧ s.dma.queue.valid = true) (fun _ => Iff.rfl)
    State.dmaRunQueued_throughCore
    (.ite (c := fun s => dmaStart s.dma.ctrl = false) (fun _ => Iff.rfl) (fun _ => rfl)
      ((State.dmaRequest_throughCore vblank).comp consume))

theorem State.dmaPhase_throughCore (n : Fin 262) : State.ThroughCore (·.dmaPhase n) :=
  .reading (fun seen : Bool × Nat => State.dmaBoundary_throughCore n seen.1 seen.2)
    (fun s => (s.ppu.vblank, s.sched.frameCounter)) (fun _ => rfl)

/-! ## The audio side (R342 to R345) -/

theorem State.popFrames_sameCore (s : State) (n : Nat) : s.SameCore (s.popFrames n) := by constructor <;> rfl

theorem State.consumerPops_sameCore (s : State) : s.SameCore s.consumerPops := by
  rw [State.consumerPops_rest]
  constructor <;> rfl

/-- How many frames are due does not depend on the ring (R342). -/
theorem State.apuSchedule_core (s : State) (cycles : Nat) : s.core.apuSchedule cycles = s.apuSchedule cycles := by
  unfold State.apuSchedule
  rfl

/-- Of the timebase the core keeps the accumulator and the count of generated frames. -/
theorem State.apuAdvance_core (s : State) (cycles : Nat) :
    (s.apuAdvance cycles).core =
      { s.core with
        audio.apuAccum := BitVec.ofNat 64 (s.apuSchedule cycles).2
        env.apuFrames := s.env.apuFrames + (s.apuSchedule cycles).1 } := by
  unfold State.apuAdvance
  generalize s.apuSchedule cycles = due
  rfl

theorem State.apuAdvance_throughCore (cycles : Nat) : State.ThroughCore (·.apuAdvance cycles) := fun s => by
  show (s.apuAdvance cycles).core = (s.core.apuAdvance cycles).core
  rw [State.apuAdvance_core, State.apuAdvance_core, State.apuSchedule_core]
  rfl

/-! ## The whole step (R131) -/

/-- The eight steps of a line, each from the core alone: the line and its budget are read off the scheduler. -/
theorem State.scanlineStep_throughCore : State.ThroughCore State.scanlineStep := by
  have pops : State.ThroughCore State.consumerPops := .of_sameCore State.consumerPops_sameCore
  have phases : ∀ line : Fin 262 × Nat, State.ThroughCore fun s =>
      ((((((s.takeBudget.onScanlineStart line.1).cpuPhase line.2).recompute.renderVisible line.1).dmaPhase
        line.1).consumerPops).apuAdvance line.2).advanceLine := fun (n, cycles) =>
    have hooked := (State.onScanlineStart_throughCore n).comp State.takeBudget_throughCore
    have ran := State.recompute_throughCore.comp ((State.cpuPhase_throughCore cycles).comp hooked)
    have drawn := (State.dmaPhase_throughCore n).comp ((State.renderVisible_throughCore n).comp ran)
    State.advanceLine_throughCore.comp ((State.apuAdvance_throughCore cycles).comp (pops.comp drawn))
  exact .reading phases (fun s => (s.sched.currentScanline, s.lineBudget)) (fun _ => rfl)

/-- Settles O55: a pop leaves the core, and a scanline step acts on the core alone. -/
theorem popsNeverReachTheCore : Obligations.PopsNeverReachTheCore :=
  ⟨fun s n => ⟨_, rfl, by constructor <;> rfl⟩,
    fun _ _ h => ⟨_, _, rfl, rfl, State.scanlineStep_throughCore.sameCore h⟩⟩

end Sys2Proof.Machine
end

section
/-! The IRQ controller (spec/41_irq.md): the whole effect of its operations, and the agreement of `int_line` with
`irq_pending & irq_enable` (R169) over every operation that does not raise without a recompute. -/

namespace Sys2Proof.Machine

/-! ## What the controller's operations change (R160, R162, R163, R175) -/

/-- A settled line is not moved by a recompute (R160). -/
theorem State.recompute_of_settled {s : State} (h : s.irq.Settled) : s.recompute = s := by
  unfold State.recompute
  rw [← h]

/-- A source that is raised and enabled asserts the line, whatever else is pending (R160, R161). -/
theorem intAsserted_or_of_and_ne_zero {pending mask enable : Byte} (h : mask &&& enable ≠ 0) :
    intAsserted (pending ||| mask) enable = true := by
  rw [intAsserted, bne_iff_ne]
  intro hzero
  have hsplit : (pending &&& enable) ||| (mask &&& enable) = 0 := by rwa [← BitVec.and_or_distrib_right]
  exact h (BitVec.or_eq_zero_iff.1 hsplit).2

section Controller

variable (s : State) (mask : Byte)

theorem State.recompute_eq :
    s.recompute = { s with irq.intLine := s.irq.pending &&& s.irq.enable != 0 } := rfl

theorem State.irqAck_eq :
    s.irqAck mask =
      { s with
        irq.pending := s.irq.pending &&& ~~~mask
        irq.intLine := s.irq.pending &&& ~~~mask &&& s.irq.enable != 0 } := rfl

theorem State.irqWriteEnable_eq :
    s.irqWriteEnable mask = { s with irq.enable := mask, irq.intLine := s.irq.pending &&& mask != 0 } := rfl

/-- The update that follows the acknowledge of port 0x82 finds the line settled (R175). -/
theorem State.portIrqAck_eq_irqAck : s.portIrqAck mask = s.irqAck mask :=
  State.recompute_of_settled (s.irqAck_settled mask)

end Controller

/-! ## Decoding of ports by their row (R110, R113) -/

section DecodePorts

variable {p : Byte}

theorem decodeIo_ioWord_of_row {r : IoRow} {d : Bool} (h : rowOf (BitVec.ofBool d ++ p) = some r) (v : Byte) :
    decodeIo (ioWord d p v) = some (r.build p v) := by
  rw [decodeIo_ioWord, h, Option.map_some]

/-- The reserved ports of the PPU's and the sprites' apertures are unmapped (R280, R281). -/
theorem unmappedPort_of_reserved (h : (0x19 ≤ p.toNat ∧ p.toNat ≤ 0x1D) ∨ (0x23 ≤ p.toNat ∧ p.toNat ≤ 0x2F)) :
    unmappedPort p = true := by
  obtain h | h := h <;> simp [unmappedPort, h]

end DecodePorts

/-! ## What the parts of the other operations leave of the controller -/

section Frames

variable (s : State)

/-- Only the enable and the acknowledge port reach the controller (R173, R175). -/
theorem State.ioWrite_irq (p v : Byte) :
    (s.ioWrite p v).irq =
      if p = 0x81 then (s.irqWriteEnable v).irq else if p = 0x82 then (s.irqAck v).irq else s.irq := by
  unfold State.ioWrite
  split
  case h_22 => split <;> simp_all [← BitVec.toNat_inj]
  all_goals simp_all [← BitVec.toNat_inj]

theorem State.consumerPops_irq : s.consumerPops.irq = s.irq := by
  rw [State.consumerPops_rest]

theorem State.apuAdvance_irq (cycles : Nat) : (s.apuAdvance cycles).irq = s.irq := by
  rw [State.apuAdvance_rest]

theorem State.advanceLine_irq : s.advanceLine.irq = s.irq := by
  unfold State.advanceLine
  split <;> rfl

end Frames

section NotConfigured

variable {s : State}

/-- Rendering leaves the controller where an overflow is not configured to raise (R313). -/
theorem State.renderScanline_irq (h : s.params.irqSprOvf = false) (n : Fin 192) :
    (s.renderScanline n).irq = s.irq := by
  unfold State.renderScanline
  split <;> simp [h]

theorem State.renderVisible_irq (h : s.params.irqSprOvf = false) (n : Fin 262) :
    (s.renderVisible n).irq = s.irq := by
  unfold State.renderVisible
  split
  · exact State.renderScanline_irq h _
  · rfl

/-- A copy leaves the controller where its end is not configured to raise (R225). -/
theorem State.dmaExecute_irq (h : s.params.irqDmaDone = false) (src dst len : Half) (pal : Bool) :
    (s.dmaExecute src dst len pal).irq = s.irq := by
  rw [State.dmaExecute, h, State.raiseIf_irq]
  exact s.dmaCopy_irq src dst pal len.toNat

/-- A boundary reaches the controller through the copy alone (R224, R225). -/
theorem State.dmaBoundary_irq (h : s.params.irqDmaDone = false) (n : Fin 262) (vblank : Bool)
    (frame : Nat) : (s.dmaBoundary n vblank frame).irq = s.irq := by
  unfold State.dmaBoundary
  split
  · exact State.dmaExecute_irq h _ _ _ _
  · split
    · rfl
    · unfold State.dmaRequest
      split
      · rfl
      · split
        · exact State.dmaExecute_irq (s := s.dmaConsumeStart) h _ _ _ _
        · split <;> rfl

end NotConfigured

/-! ## The line stays settled (R169) -/

theorem Irq.reset_settled : Irq.reset.Settled := rfl

section Settled

variable {s : State}

theorem State.ioWrite_settled (h : s.irq.Settled) (p v : Byte) : (s.ioWrite p v).irq.Settled := by
  rw [State.ioWrite_irq]
  split
  · exact s.irqWriteEnable_settled v
  · split
    · exact s.irqAck_settled v
    · exact h

theorem State.ioReadEffect_settled (h : s.irq.Settled) (p : Byte) : (s.ioReadEffect p).irq.Settled := by
  rwa [State.ioReadEffect_irq]

theorem State.transact_settled (h : s.irq.Settled) (w : IoWord) : (s.transact w).irq.Settled := by
  unfold State.transact
  split
  · exact State.ioWrite_settled h _ _
  · exact State.ioReadEffect_settled h _

theorem State.cpuAction_settled (h : s.irq.Settled) (a : CpuAction) : (s.cpuAction a).irq.Settled := by
  cases a with
  | input addr => exact State.ioReadEffect_settled h _
  | output addr v => exact State.ioWrite_settled h _ _
  | store addr v => exact (s.memWrite_irq addr v).symm ▸ h
  | load | sampleInt => exact h

theorem State.cpuActions_settled (acts : List CpuAction) :
    ∀ {s : State}, s.irq.Settled → (s.cpuActions acts).irq.Settled := by
  induction acts with
  | nil => exact id
  | cons a acts ih => exact fun h => ih (State.cpuAction_settled h a)

theorem State.runSlice_settled (h : s.irq.Settled) (budget : Nat) : (s.runSlice budget).irq.Settled := by
  have htake : s.takeSlice.irq.Settled := s.takeSlice_sameBlock.irq.symm ▸ h
  unfold State.runSlice
  split
  · exact htake
  · exact State.cpuActions_settled _ htake

/-- Nothing after the update that follows the CPU's slice reaches the controller where neither source is configured, so
the step settles the line of any state (R131, R168). -/
theorem State.scanlineStep_settled (hovf : s.params.irqSprOvf = false) (hdma : s.params.irqDmaDone = false) :
    s.scanlineStep.irq.Settled := by
  have hran : ((s.takeBudget.onScanlineStart s.sched.currentScanline).cpuPhase s.lineBudget).recompute.params =
      s.params := by
    rw [State.recompute_params, State.cpuPhase_params, State.onScanlineStart_params, State.takeBudget_params]
  rw [← hran] at hovf hdma
  rw [← State.renderVisible_params _ s.sched.currentScanline] at hdma
  rw [State.scanlineStep, State.advanceLine_irq, State.apuAdvance_irq, State.consumerPops_irq, State.dmaPhase,
    State.dmaBoundary_irq hdma, State.renderVisible_irq hovf]
  exact State.recompute_settled _

theorem State.scanlines_params (s : State) (k : Nat) : (s.scanlines k).params = s.params := by
  induction k with
  | zero => rfl
  | succ k ih => rw [State.scanlines, State.scanlineStep_params, ih]

theorem State.scanlines_settled (h : s.irq.Settled) (hovf : s.params.irqSprOvf = false)
    (hdma : s.params.irqDmaDone = false) (k : Nat) : (s.scanlines k).irq.Settled := by
  cases k with
  | zero => exact h
  | succ k =>
    rw [← s.scanlines_params k] at hovf hdma
    exact State.scanlineStep_settled hovf hdma

/-- No operation but those that raise without a recompute moves a settled line away from its masks. -/
theorem exec_settled {i : Instr} {s t : State} (he : exec i s = .next t) (h : s.irq.Settled)
    (hraise : ¬ mayUnsettle s i) : t.irq.Settled := by
  cases hreq : encode i with
  | io w =>
    obtain ⟨-, rfl⟩ | hsame := exec_io_cases hreq he
    · exact State.transact_settled h w
    · exact hsame.irq.symm ▸ h
  | hook bytes =>
    cases i with
    | irqRaise mask => exact absurd trivial hraise
    | powerOn | reset => cases he; exact Irq.reset_settled
    | irqAck mask => cases he; exact s.irqAck_settled mask
    | irqWriteEnable mask => cases he; exact s.irqWriteEnable_settled mask
    | irqPreCpuUpdate | irqPostCpuUpdate => cases he; exact s.recompute_settled
    | onScanlineStart n => cases he; exact s.onScanlineStart_settled n
    | cpuStep budget => cases he; exact State.runSlice_settled h budget
    | renderScanline n =>
      cases he
      exact (State.renderScanline_irq (Bool.eq_false_of_not_eq_true hraise) n).symm ▸ h
    | dmaBoundary n vblank frame =>
      cases he
      exact (State.dmaBoundary_irq (Bool.eq_false_of_not_eq_true hraise) n vblank frame).symm ▸ h
    | dmaExecute src dst len pal =>
      cases he
      exact (State.dmaExecute_irq (Bool.eq_false_of_not_eq_true hraise) src dst len pal).symm ▸ h
    | scanlineStep =>
      obtain ⟨hovf, hdma⟩ := not_or.1 hraise
      cases he
      exact State.scanlineStep_settled (Bool.eq_false_of_not_eq_true hovf) (Bool.eq_false_of_not_eq_true hdma)
    | stepFrame =>
      obtain ⟨hovf, hdma⟩ := not_or.1 hraise
      exact Host.Outcome.next.inj he ▸ State.scanlines_settled h (Bool.eq_false_of_not_eq_true hovf)
        (Bool.eq_false_of_not_eq_true hdma) _
    | loadRom bytes => exact (exec_loadRom_frame he).2.symm ▸ h
    | apuAdvance cycles => cases he; exact (s.apuAdvance_irq cycles).symm ▸ h
    | irqReadStatus | irqReadEnable | irqIntLineAsserted | ringPush | popAudioFrames | framebufferRead
    | setHostButtons =>
      cases he
      exact h
    | _ => nomatch hreq

end Settled

/-! ## The obligations -/

/-- Settles O25: the four operations end in a recompute, and the rest leave the controller or recompute it. -/
theorem controllerInvariant : Obligations.ControllerInvariant := by
  refine ⟨fun s mask i hi => ?settles, fun s i h hraise => ?keeps⟩
  case settles =>
    simp only [List.mem_cons, List.not_mem_nil, or_false] at hi
    obtain rfl | rfl | rfl | rfl := hi
    · exact ⟨_, rfl, s.irqAck_settled mask⟩
    · exact ⟨_, rfl, s.irqWriteEnable_settled mask⟩
    · exact ⟨_, rfl, s.recompute_settled⟩
    · exact ⟨_, rfl, s.recompute_settled⟩
  case keeps =>
    obtain ⟨t, ht⟩ := everyOperationCompletes i s
    exact ⟨t, ht, exec_settled ht h hraise⟩

/-- Settles O12: the status ports have rows of their own, the reserved ones only the default rows. -/
theorem readOnlyAndReservedPorts : Obligations.ReadOnlyAndReservedPorts := by
  refine ⟨fun s v => ⟨rfl, rfl, rfl, ?vdp, ?spr, ?irq⟩, fun p v hp => ?reserved⟩
  case vdp | spr | irq => exact (decodeIo_ioWord_of_row (by rfl) v).trans rfl
  case reserved =>
    have hun := unmappedPort_of_reserved hp
    exact ⟨decodeIo_ioWord_of_row (rowOf_inUnmapped hun) v, decodeIo_ioWord_of_row (rowOf_outUnmapped hun) v⟩

/-- Settles O20: the enable write recomputes from a pending mask that holds the raised bits. -/
theorem raiseLatchesWithoutRecompute : Obligations.RaiseLatchesWithoutRecompute :=
  fun _ _ => ⟨rfl, fun _ h => ⟨_, rfl, intAsserted_or_of_and_ne_zero h⟩⟩

/-- Settles O21; each hook's own request, its mask the one argument, decodes to it. -/
theorem acknowledgeAndEnableRecompute : Obligations.AcknowledgeAndEnableRecompute := fun s mask =>
  ⟨congrArg Host.Outcome.next (s.irqAck_eq mask), congrArg Host.Outcome.next (s.irqWriteEnable_eq mask),
    ⟨[mask], encodeDecodeRoundTrip.1 (.irqAck mask) rfl⟩,
    ⟨[mask], encodeDecodeRoundTrip.1 (.irqWriteEnable mask) rfl⟩⟩

/-- Settles O22: each read answers from its own field. -/
theorem controllerReads : Obligations.ControllerReads := fun _ =>
  ⟨rfl, rfl, rfl, encodeDecodeRoundTrip.1 .irqReadStatus rfl, encodeDecodeRoundTrip.1 .irqReadEnable rfl,
    encodeDecodeRoundTrip.1 .irqIntLineAsserted rfl⟩

/-- Settles O23: a second recompute finds the line settled. -/
theorem updatesRecompute : Obligations.UpdatesRecompute := fun s =>
  have update := congrArg Host.Outcome.next s.recompute_eq
  have twice := congrArg Host.Outcome.next (State.recompute_of_settled s.recompute_settled)
  ⟨update, update, twice, s.recompute_eq, encodeDecodeRoundTrip.1 .irqPreCpuUpdate rfl,
    encodeDecodeRoundTrip.1 .irqPostCpuUpdate rfl⟩

/-- Settles O24: the acknowledge port is `IRQ_ACK`, its second recompute changing nothing. -/
theorem irqPorts : Obligations.IrqPorts := by
  intro s v
  have ack : exec (.outIrqAck v) s = exec (.irqAck v) s := congrArg Host.Outcome.next (s.portIrqAck_eq_irqAck v)
  refine ⟨rfl, rfl, rfl, congrArg Host.Outcome.next (s.irqWriteEnable_eq v),
    ack.trans (congrArg Host.Outcome.next (s.irqAck_eq v)), ack, ?_, ?_, ?_, ?_, ?_⟩
  all_goals exact (decodeIo_ioWord_of_row (by rfl) v).trans rfl

end Sys2Proof.Machine
end

section
/-! Proofs of the statements of spec/42_bus_io.md: what the decoder reads from a request is an operation of the table (R193,
R196), and the ports with no register of the block: unmapped (R191, R192), the APU's (R194), and the host's buttons, which
no port reads (R197). -/

namespace Sys2Proof

/-! ## What a hook request decodes to (R114) -/

/-- Whatever the reader answers, other than an error, has the property. -/
def Taken.Gives {α : Type} (x : Taken α) (P : α → Prop) : Prop :=
  ∀ a rest, x = .ok (a, rest) → P a

section Gives

variable {α β : Type} {P : β → Prop}

theorem Taken.gives_ok {b : β} (rest : List Byte) (h : P b) : Taken.Gives (.ok (b, rest)) P := by
  rintro _ _ ⟨⟩
  exact h

theorem Taken.gives_error (e : DecodeError) : Taken.Gives (.error e) P := nofun

theorem Taken.gives_build {f : α → β} (x : Taken α) (h : ∀ a, P (f a)) : (x.build f).Gives P := by
  match x with
  | .ok (a, rest) => exact gives_ok rest (h a)
  | .error e => exact gives_error e

theorem Taken.gives_andThen {f : α → List Byte → Taken β} (x : Taken α) (h : ∀ a rest, (f a rest).Gives P) :
    (x.andThen f).Gives P := by
  match x with
  | .ok (a, rest) => exact h a rest
  | .error e => exact gives_error e

end Gives

/-- No hook identifier names an operation that carries a port: what a hook builds is well-formed whatever its arguments. -/
theorem decodeHookOp_wellFormed (op : Byte) (args : List Byte) :
    (decodeHookOp op args).Gives (·.wellFormed = true) := by
  unfold decodeHookOp
  split
  case h_3 | h_19 => exact Taken.gives_andThen _ fun _ _ => Taken.gives_build _ fun _ => rfl
  case h_8 => exact Taken.gives_andThen _ fun _ _ => Taken.gives_andThen _ fun _ _ => Taken.gives_build _ fun _ => rfl
  case h_22 =>
    exact Taken.gives_andThen _ fun _ _ => Taken.gives_andThen _ fun _ _ => Taken.gives_andThen _ fun _ _ =>
      Taken.gives_build _ fun _ => rfl
  case h_6 | h_7 | h_9 | h_10 | h_11 | h_12 | h_18 | h_20 | h_23 => exact Taken.gives_build _ fun _ => rfl
  case h_24 => exact Taken.gives_error _
  all_goals exact Taken.gives_ok _ rfl

theorem decodeHook_wellFormed : ∀ bytes : List Byte, (decodeHook bytes).Gives (·.wellFormed = true)
  | [] => Taken.gives_error _
  | op :: args => decodeHookOp_wellFormed op args

/-- The operation of a hook request is the one read at its head. -/
theorem decodeHook_of_decode {bytes : List Byte} {i : Instr} (h : decode (.hook bytes) = .ok i) :
    ∃ rest, decodeHook bytes = .ok (i, rest) := by
  rcases hb : decodeHook bytes with e | ⟨j, rest⟩
  · rw [Machine.decode_hook_of_error hb] at h
    nomatch h
  · simp only [decode, hb] at h
    split at h
    · cases h
      exact ⟨rest, rfl⟩
    · nomatch h

/-! ## What a transaction decodes to (R113) -/

theorem decode_io_wellFormed {w : IoWord} {i : Instr} (h : decode (.io w) = .ok i) : i.wellFormed = true := by
  obtain ⟨j, hj, hwf, -⟩ := exists_decodeIo w.isWrite w.port w.data
  rw [ioWord_fields] at hj
  simp only [decode, hj, Except.ok.injEq] at h
  exact h ▸ hwf

/-- Settles O6: a transaction by its row (`exists_decodeIo`), a hook by its identifier. -/
theorem decodedOperationsAreWellFormed : Obligations.DecodedOperationsAreWellFormed := by
  intro r i h
  match r with
  | .io w => exact decode_io_wellFormed h
  | .hook bytes =>
    obtain ⟨rest, hb⟩ := decodeHook_of_decode h
    exact decodeHook_wellFormed bytes i rest hb

end Sys2Proof

namespace Sys2Proof.Machine

/-! ## Unmapped ports (R191, R192) -/

/-- The ports of R191 outside the block's apertures and outside the APU's rows are unmapped. -/
theorem unmappedPort_of_outside_map {p : Byte}
    (h : p.toNat ≤ 0x0F ∨ (0x37 ≤ p.toNat ∧ p.toNat ≤ 0x5F) ∨ 0x83 ≤ p.toNat) : unmappedPort p = true := by
  obtain h | h | h := h <;> simp [unmappedPort, h]

/-- Settles O17: the ports outside the map have only the default rows, 0x7E and 0x7F rows of their own (R193). -/
theorem unmappedPorts : Obligations.UnmappedPorts := by
  refine ⟨fun s p v => ⟨rfl, rfl, rfl, rfl, rfl, rfl⟩, fun p v hp => ?outside, fun v => ⟨?_, ?_, ?_, ?_⟩⟩
  case outside =>
    have hun := unmappedPort_of_outside_map hp
    exact ⟨decodeIo_ioWord_of_row (rowOf_inUnmapped hun) v, decodeIo_ioWord_of_row (rowOf_outUnmapped hun) v⟩
  all_goals exact (decodeIo_ioWord_of_row (by rfl) v).trans rfl

/-! ## The agents' side of the ports (R194, R197) -/

section Agents

variable {s t : State}

/-- Two states with the same block differ in the agents' interface alone. -/
theorem State.SameBlock.eq_with_env (h : s.SameBlock t) : t = { s with env := t.env } := by
  obtain ⟨hparams, hsched, hppu, hirq, hdma, haudio, hwram, hrom⟩ := h
  rw [← hparams, ← hsched, ← hppu, ← hirq, ← hdma, ← haudio, ← hwram, ← hrom]

/-- What a port reads comes from the block and from the APU's side of the interface: from nothing else an agent holds. -/
theorem State.SameBlock.ioReadByte_eq (h : s.SameBlock t) (hwrites : t.env.apuWrites = s.env.apuWrites)
    (hreads : t.env.apuReads = s.env.apuReads) (p : Byte) : t.ioReadByte p = s.ioReadByte p := by
  have hapu : t.apuByte p = s.apuByte p := by rw [State.apuByte, State.apuByte, hwrites, hreads]
  have hblock := h.eq_with_env
  unfold State.ioReadByte
  rw [hapu, hblock]
  rfl

theorem State.apuWrite_sameBlock (s : State) (p v : Byte) : s.SameBlock (s.apuWrite p v) := by constructor <;> rfl

theorem State.apuReadDrawn_answerByte_sameBlock (s : State) (b : Byte) : s.SameBlock (s.apuReadDrawn.answerByte b) := by
  constructor <;> rfl

theorem State.hostButtons_sameBlock (s : State) (b : Buttons) : s.SameBlock { s with env.hostButtons := b } := by
  constructor <;> rfl

end Agents

/-- Settles O18: the write is added to those the APU has received, and the byte read is the APU's. -/
theorem apuPorts : Obligations.ApuPorts := fun s p v =>
  ⟨⟨s.apuWrite p v, rfl, s.apuWrite_sameBlock p v, rfl, rfl⟩,
    ⟨s.apuReadDrawn.answerByte (s.apuByte p), s.apuByte p, rfl, s.apuReadDrawn_answerByte_sameBlock _, rfl, rfl⟩⟩

/-- Settles O19: the buttons stand neither in the block nor on the APU's side, the two sources of a byte read. -/
theorem hostButtonsOutsideBlock : Obligations.HostButtonsOutsideBlock := fun s b =>
  have same := s.hostButtons_sameBlock b
  ⟨{ s with env.hostButtons := b }, rfl, same, rfl, same.ioReadByte_eq rfl rfl⟩

end Sys2Proof.Machine
end

section
/-! Proofs of the statements of spec/43_dma.md: the control port (R216, R217), and what a DMA boundary does in each of
its seven cases (R224). -/

namespace Sys2Proof.Machine

/-! ## The control port (R216, R217) -/

/-- A write of DMA CTRL stores the byte without BUSY and changes nothing else: START is left to the next boundary. -/
theorem State.writeDmaCtrl_eq (s : State) (v : Byte) : s.writeDmaCtrl v = { s with dma.ctrl := v &&& 0x7F } := rfl

/-- A read of DMA CTRL is the stored byte without BUSY. -/
theorem State.readDmaCtrl_eq (s : State) : s.readDmaCtrl = s.dma.ctrl &&& 0x7F := rfl

/-- Settles O16: the port stores and answers its byte without BUSY. -/
theorem dmaControlPort : Obligations.DmaControlPort := fun s v =>
  ⟨congrArg Host.Outcome.next (s.writeDmaCtrl_eq v),
    congrArg (fun b => Host.Outcome.next (s.answerByte b)) s.readDmaCtrl_eq⟩

/-! ## The auto-clear of START (R221) -/

theorem clearStart_getLsbD_of_pos (ctrl : Byte) {i : Nat} (h : 0 < i) :
    (clearStart ctrl).getLsbD i = ctrl.getLsbD i := by
  obtain hi | hi := Nat.lt_or_ge i 8
  · interval_cases i <;> simp [clearStart]
  · rw [BitVec.getLsbD_of_ge _ _ hi, BitVec.getLsbD_of_ge _ _ hi]

@[simp] theorem dmaQueueIfNotVblank_clearStart (ctrl : Byte) :
    dmaQueueIfNotVblank (clearStart ctrl) = dmaQueueIfNotVblank ctrl := clearStart_getLsbD_of_pos ctrl (by decide)

@[simp] theorem dmaDstIsPalette_clearStart (ctrl : Byte) :
    dmaDstIsPalette (clearStart ctrl) = dmaDstIsPalette ctrl := clearStart_getLsbD_of_pos ctrl (by decide)

/-! ## The boundary, case by case (R218 to R222, R224) -/

section Boundary

variable {s : State} {n : Fin 262} {vblank : Bool}

/-- Case 1: at line 192 in VBlank a queued copy runs, and START is not examined (R218). -/
theorem State.dmaBoundary_of_queued (h : n.val = 192 ∧ vblank = true ∧ s.dma.queue.valid = true) (frame : Nat) :
    s.dmaBoundary n vblank frame = s.dmaRunQueued := if_pos h

/-- Case 2: without a queued copy to run and without START nothing happens (R221). -/
theorem State.dmaBoundary_of_no_start (h : ¬(n.val = 192 ∧ vblank = true ∧ s.dma.queue.valid = true))
    (hstart : dmaStart s.dma.ctrl = false) (frame : Nat) : s.dmaBoundary n vblank frame = s :=
  (if_neg h).trans (if_pos hstart)

/-- Case 3: without a queued copy to run START is cleared, and the registers' request is served (R221). -/
theorem State.dmaBoundary_of_start (h : ¬(n.val = 192 ∧ vblank = true ∧ s.dma.queue.valid = true))
    (hstart : dmaStart s.dma.ctrl = true) (frame : Nat) :
    s.dmaBoundary n vblank frame = s.dmaConsumeStart.dmaRequest vblank :=
  (if_neg h).trans (if_neg (ne_false_of_eq_true hstart))

/-- Case 4: a request of length 0 is no request (R221). -/
theorem State.dmaRequest_of_len_zero (hlen : s.dma.len = 0) : s.dmaRequest vblank = s := if_pos hlen

/-- Case 5: in VBlank the copy runs with the registers as they are (R222). -/
theorem State.dmaRequest_of_vblank (hlen : s.dma.len ≠ 0) : s.dmaRequest true = s.dmaRunNow :=
  (if_neg hlen).trans (if_pos rfl)

/-- Case 6: outside VBlank a request that may wait takes the slot, whatever it held (R219). -/
theorem State.dmaRequest_of_queueIfNotVblank (hlen : s.dma.len ≠ 0) (hqueue : dmaQueueIfNotVblank s.dma.ctrl = true) :
    s.dmaRequest false = s.dmaEnqueue :=
  (if_neg hlen).trans (if_pos hqueue)

/-- Case 7: outside VBlank a request that may not wait is dropped (R220). -/
theorem State.dmaRequest_of_not_queueIfNotVblank (hlen : s.dma.len ≠ 0)
    (hqueue : dmaQueueIfNotVblank s.dma.ctrl = false) : s.dmaRequest false = s.dmaDrop :=
  (if_neg hlen).trans (if_neg (ne_true_of_eq_false hqueue))

end Boundary

/-! ## The requests of a boundary that has cleared START, in the registers before it -/

/-- The copy that runs at once: bit 3 is not the bit that was cleared. -/
theorem State.dmaRunNow_dmaConsumeStart (s : State) :
    s.dmaConsumeStart.dmaRunNow =
      { s.dmaConsumeStart.dmaExecute s.dma.src s.dma.dst s.dma.len (dmaDstIsPalette s.dma.ctrl) with
        dma.lastTriggerWasQueued := false } := by
  simp [State.dmaRunNow]

/-- The request that takes the slot: bit 3 is not the bit that was cleared. -/
theorem State.dmaEnqueue_dmaConsumeStart (s : State) :
    s.dmaConsumeStart.dmaEnqueue =
      { s with
        dma.ctrl := s.dma.ctrl &&& 0xFE
        dma.queue := ⟨true, s.dma.src, s.dma.dst, s.dma.len, dmaDstIsPalette s.dma.ctrl⟩ } := by
  rw [State.dmaEnqueue, State.dmaConsumeStart_dma, dmaDstIsPalette_clearStart]
  rfl

/-- Settles O30: the cases of the boundary in the order of R224, each from its own equation. -/
theorem dmaBoundaryCases : Obligations.DmaBoundaryCases := by
  intro s n vblank frame
  refine ⟨fun hrun => ⟨_, rfl, congrArg Host.Outcome.next (State.dmaBoundary_of_queued hrun frame)⟩,
    fun hrun => ⟨fun hstart => congrArg Host.Outcome.next (State.dmaBoundary_of_no_start hrun hstart frame), ?_⟩⟩
  have boundary (hstart : dmaStart s.dma.ctrl = true) {t : State} (ht : s.dmaConsumeStart.dmaRequest vblank = t) :
      exec (.dmaBoundary n vblank frame) s = .next t :=
    congrArg Host.Outcome.next ((State.dmaBoundary_of_start hrun hstart frame).trans ht)
  refine ⟨fun hstart hlen => ?empty, fun hstart hlen hvb => ?now, fun hstart hlen hvb hqueue => ?queue,
    fun hstart hlen hvb hqueue => ?drop⟩
  case empty => exact boundary hstart (State.dmaRequest_of_len_zero hlen)
  case now =>
    subst hvb
    have hnow := State.dmaRequest_of_vblank (s := s.dmaConsumeStart) hlen
    exact ⟨_, rfl, boundary hstart (hnow.trans s.dmaRunNow_dmaConsumeStart)⟩
  case queue =>
    subst hvb
    have hwait := (dmaQueueIfNotVblank_clearStart s.dma.ctrl).trans hqueue
    have henqueue := State.dmaRequest_of_queueIfNotVblank (s := s.dmaConsumeStart) hlen hwait
    exact boundary hstart (henqueue.trans s.dmaEnqueue_dmaConsumeStart)
  case drop =>
    subst hvb
    have hnowait := (dmaQueueIfNotVblank_clearStart s.dma.ctrl).trans hqueue
    exact boundary hstart (State.dmaRequest_of_not_queueIfNotVblank (s := s.dmaConsumeStart) hlen hnowait)

end Sys2Proof.Machine
end

section
/-! Proofs of the statements of spec/44_ppu_io.md, its register ports: one law over the ten staged registers for reads, one
for writes and one for the decoding of their ports (R252 to R267, R272 to R275), and the two status ports (R250, R276). -/

namespace Sys2Proof.Machine

/-! ## The ports of the staged registers by register -/

/-- The port of a staged register. -/
def PpuReg.port : PpuReg → Byte
  | .vdpCtrl => 0x11
  | .scrollAX => 0x12
  | .scrollAY => 0x13
  | .scrollBX => 0x14
  | .scrollBY => 0x15
  | .tmapABase => 0x16
  | .tmapBBase => 0x17
  | .patBase => 0x18
  | .sprCtrl => 0x20
  | .satBase => 0x21

/-- The operation that reads a staged register. -/
def PpuReg.input : PpuReg → Instr
  | .vdpCtrl => .inVdpCtrl
  | .scrollAX => .inScrollAX
  | .scrollAY => .inScrollAY
  | .scrollBX => .inScrollBX
  | .scrollBY => .inScrollBY
  | .tmapABase => .inTmapABase
  | .tmapBBase => .inTmapBBase
  | .patBase => .inPatBase
  | .sprCtrl => .inSprCtrl
  | .satBase => .inSatBase

/-- The operation that writes a staged register. -/
def PpuReg.output (v : Byte) : PpuReg → Instr
  | .vdpCtrl => .outVdpCtrl v
  | .scrollAX => .outScrollAX v
  | .scrollAY => .outScrollAY v
  | .scrollBX => .outScrollBX v
  | .scrollBY => .outScrollBY v
  | .tmapABase => .outTmapABase v
  | .tmapBBase => .outTmapBBase v
  | .patBase => .outPatBase v
  | .sprCtrl => .outSprCtrl v
  | .satBase => .outSatBase v

section StagedPorts

variable (k : PpuReg) (s : State) (v : Byte)

/-- Readback is from the pending copy, whatever the active copy holds (92_eei_decisions.md D4). -/
theorem exec_input : exec k.input s = .next { s with env.reply := .byte (s.ppu.pending.get k) } := by
  cases k <;> rfl

theorem exec_output : exec (k.output v) s = .next { s with ppu.pending := s.ppu.pending.put k v } := by
  cases k <;> rfl

/-- The data bits of a read transaction are not looked at (R110, R113). -/
theorem decodeIo_input : decodeIo (ioWord false k.port v) = some k.input := by
  cases k <;> exact (decodeIo_ioWord_of_row (by rfl) v).trans rfl

end StagedPorts

/-- Settles O9: the read law and the decoding of its port, at each of the ten registers. -/
theorem stagedRegisterReads : Obligations.StagedRegisterReads := by
  intro s v
  have reads (k : PpuReg) := exec_input k s
  have decodes (k : PpuReg) := decodeIo_input k v
  exact ⟨reads .vdpCtrl, reads .scrollAX, reads .scrollAY, reads .scrollBX, reads .scrollBY, reads .tmapABase,
    reads .tmapBBase, reads .patBase, reads .sprCtrl, reads .satBase,
    decodes .vdpCtrl, decodes .scrollAX, decodes .scrollAY, decodes .scrollBX, decodes .scrollBY, decodes .tmapABase,
    decodes .tmapBBase, decodes .patBase, decodes .sprCtrl, decodes .satBase⟩

/-- Settles O10: the write law at each of the ten registers. -/
theorem stagedRegisterWrites : Obligations.StagedRegisterWrites := by
  intro s v
  have writes (k : PpuReg) := exec_output k s v
  exact ⟨writes .vdpCtrl, writes .scrollAX, writes .scrollAY, writes .scrollBX, writes .scrollBY, writes .tmapABase,
    writes .tmapBBase, writes .patBase, writes .sprCtrl, writes .satBase⟩

/-! ## The status ports (R250, R276) -/

/-- A flag handed back to the CPU: bit 0, bits 7:1 zero (92_eei_decisions.md D6). -/
theorem State.answerByte_statusByte (s : State) (flag : Bool) :
    s.answerByte (statusByte flag) = { s with env.reply := .byte (if flag then 0x01 else 0x00) } := rfl

/-- Settles O11: each status port hands back its own flag. -/
theorem statusPortReads : Obligations.StatusPortReads := fun s =>
  ⟨congrArg Host.Outcome.next (s.answerByte_statusByte s.ppu.vblank),
    congrArg Host.Outcome.next (s.answerByte_statusByte s.ppu.sprOvfLatch)⟩

end Sys2Proof.Machine
end

section
/-! Proofs of the statements of spec/45_ppu_render.md on sprites, colours and the scanline operation: the selection of a
line's sprites (R304), the sprite line cell by cell (R306, R317), compositing (R308, R310), the line as one record of
what rendering writes (R300, R309, R313), and the colours of palette words (R312). -/

namespace Sys2Proof.Machine

/-! ## The selection (R304) -/

section Selection

variable (p : Ppu) (n : Nat)

/-- The difference of R304 taken over the integers. -/
theorem isCandidate_eq_decide (i : Nat) :
    isCandidate p n i = decide (((n : Int) - satField p i 0) % 256 < 8) := by
  have hdy : satDy p n i < 8 ↔ ((n : Int) - satField p i 0) % 256 < 8 := by
    unfold satDy
    omega
  rw [isCandidate, spriteDy_eq]
  exact decide_eq_decide.2 hdy

/-- What the loop has selected and the candidates still ahead, cut at the sixteenth: the loop's whole answer. -/
theorem selectFrom_eq (entries : List Nat) : ∀ sel : List Nat, sel.length ≤ 16 →
    selectFrom p n entries sel =
      ⟨(sel ++ entries.filter (isCandidate p n)).take 16,
        decide (16 < (sel ++ entries.filter (isCandidate p n)).length)⟩ := by
  induction entries with
  | nil =>
    intro sel hsel
    simp [selectFrom, List.take_of_length_le hsel, Nat.not_lt.2 hsel]
  | cons i rest ih =>
    intro sel hsel
    rw [selectFrom]
    split
    next hcand =>
      rw [List.filter_cons_of_pos hcand]
      split
      next hfull =>
        rw [Config.sprPerLine] at hfull
        simp [List.take_append_of_le_length hfull.ge, List.take_of_length_le hsel, hfull]
      next hroom =>
        rw [Config.sprPerLine] at hroom
        rw [ih (sel ++ [i]) (by rw [List.length_append, List.length_singleton]; omega), List.append_assoc]
        rfl
    next hno => rw [List.filter_cons_of_neg hno, ih sel hsel]

theorem selectSprites_eq :
    selectSprites p n =
      if spritesEnabled p.active = true then ⟨(candidates p n).take 16, decide (16 < (candidates p n).length)⟩
      else ⟨[], false⟩ := by
  rw [selectSprites, selectFrom_eq p n _ [] (Nat.zero_le 16), candidates_eq, List.nil_append]

theorem selectSprites_chosen :
    (selectSprites p n).chosen = if spritesEnabled p.active = true then (candidates p n).take 16 else [] := by
  rw [selectSprites_eq, apply_ite Selection.chosen]

theorem selectSprites_overflow :
    (selectSprites p n).overflow = (spritesEnabled p.active && decide (16 < (candidates p n).length)) := by
  rw [selectSprites_eq]
  cases spritesEnabled p.active <;> rfl

end Selection

/-- Settles O43: the loop's answer from an empty selection, over the entries of the SAT. -/
theorem selectionIsFirstSixteen : Obligations.SelectionIsFirstSixteen := by
  intro p n
  have hselect := selectSprites_eq p n
  rw [candidates_eq] at hselect
  have hy (i : Nat) : satField p i 0 = (vramRead p.vram (p.active.satBase.toNat * 256 + 8 * i)).toNat := by
    rw [satField, Nat.add_zero]
    rfl
  exact ⟨fun i => hy i ▸ isCandidate_eq_decide p n i, hselect⟩

/-! ## The sprite line, cell by cell (R306, R317) -/

section SpriteLine

variable (p : Ppu) (n : Nat)

/-- The cell that SAT entry `i` draws at screen column `x`, where it is opaque. -/
def drawnCell (i x : Nat) : SpritePixel := spriteCell p i (spriteColor p n i (x - satField p i 1))

/-- One column of a sprite reaches its own cell only, and that where it is opaque. -/
theorem drawColumn_getElem (i c : Nat) (cells : Vector SpritePixel 256) {x : Nat} (hx : x < 256) :
    (drawColumn p n i cells c)[x] =
      if satField p i 1 + c = x ∧ satPixel p n i c ≠ 0 then drawnCell p n i x else cells[x] := by
  unfold drawColumn
  simp only [satByte_toNat, spriteColor_eq_zero]
  by_cases hopaque : satPixel p n i c = 0
  case pos => simp [hopaque]
  case neg =>
    by_cases hcol : satField p i 1 + c = x
    case pos =>
      subst hcol
      simp [hopaque, hx, drawnCell]
    case neg =>
      simp only [hopaque, hcol, if_false, false_and]
      split
      · exact Vector.getElem_set_ne _ _ hcol
      · rfl

/-- The first `k` columns of a sprite, drawn. -/
theorem foldl_drawColumn_getElem (i k : Nat) (cells : Vector SpritePixel 256) {x : Nat} (hx : x < 256) :
    ((List.range k).foldl (drawColumn p n i) cells)[x] =
      if satField p i 1 ≤ x ∧ x < satField p i 1 + k ∧ satPixel p n i (x - satField p i 1) ≠ 0 then
        drawnCell p n i x
      else cells[x] := by
  induction k with
  | zero => exact (if_neg (by omega)).symm
  | succ k ih =>
    rw [List.range_succ, List.foldl_append, List.foldl_cons, List.foldl_nil, drawColumn_getElem p n i k _ hx, ih]
    by_cases hcol : satField p i 1 + k = x
    case pos =>
      subst hcol
      simp
    case neg =>
      rw [if_neg (by tauto)]
      exact if_congr (by omega) rfl rfl

theorem drawSprite_getElem (i : Nat) (cells : Vector SpritePixel 256) {x : Nat} (hx : x < 256) :
    (drawSprite p n cells i)[x] = if drawsAt p n x i = true then drawnCell p n i x else cells[x] :=
  (foldl_drawColumn_getElem p n i 8 cells hx).trans (if_congr decide_eq_true_iff.symm rfl rfl)

theorem topSpriteCell_cons (i : Nat) (sel : List Nat) (x : Nat) :
    topSpriteCell p n (i :: sel) x =
      if drawsAt p n x i = true then drawnCell p n i x else topSpriteCell p n sel x := by
  split
  next hdraws => rw [topSpriteCell, List.find?_cons_of_pos hdraws, drawnCell, spriteCell_eq]
  next hclear => rw [topSpriteCell, List.find?_cons_of_neg hclear, topSpriteCell]

/-- Drawing in reverse order leaves the first of the selection on top (R306, R317). -/
theorem rasterSprites_getElem (sel : List Nat) {x : Nat} (hx : x < 256) :
    (rasterSprites p n sel)[x] = topSpriteCell p n sel x := by
  induction sel with
  | nil => exact Vector.getElem_replicate hx
  | cons i sel ih =>
    have hlast : rasterSprites p n (i :: sel) = drawSprite p n (rasterSprites p n sel) i := by
      rw [rasterSprites, List.reverse_cons, List.foldl_append]
      rfl
    simp only [hlast, drawSprite_getElem p n i _ hx, ih, topSpriteCell_cons]

end SpriteLine

/-- Settles O44, by the sprite line's cells; the top cell's own reading is that of the statement. -/
theorem lowestIndexOpaqueSpriteWins : Obligations.LowestIndexOpaqueSpriteWins :=
  fun p n sel x _ => ⟨rasterSprites_getElem p n sel x.isLt, rfl⟩

/-! ## Compositing (R308, R310) -/

theorem spriteIndex_eq (c : SpritePixel) : spriteIndex c = c.paletteSel.toNat * 16 + c.colorIndex.toNat := by
  rw [spriteIndex, BitVec.toNat_append, ← Nat.shiftLeft_add_eq_or_of_lt c.colorIndex.isLt, Nat.shiftLeft_eq]

/-- Settles O45: a plane pixel is 0 as a nibble where it is 0 as a number. -/
theorem compositeRule : Obligations.CompositeRule := by
  intro a b c
  have hzero : a ≠ 0 ↔ a.toNat ≠ 0 := not_congr BitVec.toNat_inj.symm
  simp only [composite, planeIndex, Fin.val_ofNat, spriteIndex_eq, hzero]

/-! ## The line, as one record of what rendering writes (R300, R309, R313) -/

/-- The pixels a line is written with (R300). -/
def linePixels (p : Ppu) (n : Nat) : Vector Argb 256 :=
  if displayEnabled p.active then renderedLine p n else blankLine p

/-- A 17th candidate is found on a line that is evaluated (R304, R311). -/
def State.lineOverflow (s : State) (n : Nat) : Bool :=
  (displayEnabled s.ppu.active || s.params.sprEvalWhenBlank) && (selectSprites s.ppu n).overflow

theorem State.latchOverflow_eq (s : State) (overflow : Bool) :
    s.latchOverflow overflow =
      { s with
        ppu.sprOvfLatch := s.ppu.sprOvfLatch || overflow
        irq.pending :=
          if overflow && s.params.irqSprOvf then s.irq.pending ||| irqSprOverflow else s.irq.pending } := by
  cases overflow with
  | false => simp [State.latchOverflow]
  | true => simp [State.latchOverflow, State.raiseIf_eq]

theorem State.renderScanline_eq (s : State) (n : Fin 192) :
    s.renderScanline n = (s.latchOverflow (s.lineOverflow n)).writeLine n (linePixels s.ppu n) := by
  unfold State.renderScanline State.lineOverflow linePixels
  cases displayEnabled s.ppu.active <;> rfl

/-- A pixel while the display is enabled, with its sprite cell from the bytes of VRAM (R304, R308). -/
theorem renderedLine_getElem (p : Ppu) (n : Nat) (x : Fin 256) :
    (renderedLine p n)[x] =
      p.activeArgb[composite (lineA p n x) (lineB p n x)
        (if spritesEnabled p.active = true then topSpriteCell p n ((candidates p n).take 16) x
         else SpritePixel.clear)] := by
  have hcell : (rasterSprites p n (selectSprites p n).chosen)[x] =
      if spritesEnabled p.active = true then topSpriteCell p n ((candidates p n).take 16) x
      else SpritePixel.clear := by
    refine (rasterSprites_getElem p n _ x.isLt).trans ?_
    rw [selectSprites_chosen, apply_ite (topSpriteCell p n · x)]
    rfl
  exact (Vector.getElem_ofFn x.isLt).trans
    (congrArg (fun cell => p.activeArgb[composite (lineA p n x) (lineB p n x) cell]) hcell)

theorem blankLine_getElem (p : Ppu) (x : Fin 256) : (blankLine p)[x] = p.activeArgb[0] :=
  Vector.getElem_replicate x.isLt

theorem linePixels_getElem (p : Ppu) (n : Nat) (x : Fin 256) :
    (linePixels p n)[x] =
      if displayEnabled p.active = true then
        p.activeArgb[composite (lineA p n x) (lineB p n x)
          (if spritesEnabled p.active = true then topSpriteCell p n ((candidates p n).take 16) x
           else SpritePixel.clear)]
      else p.activeArgb[0] := by
  unfold linePixels
  split
  · exact renderedLine_getElem p n x
  · exact blankLine_getElem p x

theorem State.renderScanline_line (s : State) (n : Fin 192) :
    (s.renderScanline n).ppu.fb[n] = linePixels s.ppu n := by
  rw [State.renderScanline_fb]
  exact Vector.getElem_set_self n.isLt

theorem State.renderScanline_otherLine (s : State) {n y : Fin 192} (h : y ≠ n) :
    (s.renderScanline n).ppu.fb[y] = s.ppu.fb[y] := by
  rw [State.renderScanline_fb]
  exact Vector.getElem_set_ne n.isLt y.isLt fun hval => h (Fin.ext hval.symm)

/-- Settles O47: the rendered line as one record, and its pixels. -/
theorem renderedLineMeetsPixelRules : Obligations.RenderedLineMeetsPixelRules := by
  intro s n
  refine ⟨s.renderScanline n, rfl, fun y x => ?pixel, ?frame⟩
  case pixel =>
    by_cases hline : y = n
    case pos =>
      subst hline
      rw [if_pos rfl, State.renderScanline_line, linePixels_getElem]
      rfl
    case neg => rw [if_neg hline, State.renderScanline_otherLine s hline]
  case frame =>
    rw [State.renderScanline_eq, State.latchOverflow_eq, State.lineOverflow, selectSprites_overflow, ← Bool.and_assoc]
    rfl

/-! ## Colours (R312) -/

theorem palRed_eq (w : Half) : palRed w = w.toNat % 8 := by
  simp [palRed, BitVec.extractLsb'_toNat]

theorem palGreen_eq (w : Half) : palGreen w = w.toNat / 8 % 8 := by
  simp [palGreen, BitVec.extractLsb'_toNat, Nat.shiftRight_eq_div_pow]

theorem palBlue_eq (w : Half) : palBlue w = w.toNat / 64 % 8 := by
  simp [palBlue, BitVec.extractLsb'_toNat, Nat.shiftRight_eq_div_pow]

/-- A channel fits its byte. -/
theorem expandChannel_mod_lt (c : Nat) : expandChannel (c % 8) < 256 := by
  unfold expandChannel
  omega

/-- A channel's byte put under the fields above its place (R312). -/
theorem or_channel_toNat {hi : BitVec 32} {c k : Nat} (hc : c < 256) (hk : k ≤ 16) (hhi : 2 ^ (k + 8) ∣ hi.toNat) :
    (hi ||| BitVec.ofNat 32 c <<< k).toNat = hi.toNat + c * 2 ^ k := by
  have hplace : c * 2 ^ k < 2 ^ (k + 8) := by
    rw [pow_add, mul_comm]
    exact Nat.mul_lt_mul_of_pos_left hc (Nat.two_pow_pos k)
  have hfit : 2 ^ (k + 8) < 2 ^ 32 := Nat.pow_lt_pow_right (by decide) (by omega)
  obtain ⟨a, ha⟩ := hhi
  rw [BitVec.toNat_or, BitVec.toNat_shiftLeft, BitVec.toNat_ofNat, Nat.mod_eq_of_lt (a := c) (by omega),
    Nat.shiftLeft_eq, Nat.mod_eq_of_lt (hplace.trans hfit), ha, Nat.two_pow_add_eq_or_of_lt hplace]

/-- Alpha, red, green and blue at 31:24, 23:16, 15:8 and 7:0 (R312). -/
theorem argb_fields_toNat {red green blue : Nat} (hr : red < 256) (hg : green < 256) (hb : blue < 256) :
    (0xFF000000#32 ||| BitVec.ofNat 32 red <<< 16 ||| BitVec.ofNat 32 green <<< 8 |||
      BitVec.ofNat 32 blue <<< 0).toNat = 0xFF000000 + red * 65536 + green * 256 + blue := by
  have halpha : (0xFF000000#32).toNat = 0xFF000000 := rfl
  have hred := or_channel_toNat (k := 16) hr (by decide) (hi := 0xFF000000#32) (by decide)
  have hgreen := or_channel_toNat (k := 8) hg (by decide)
    (hi := 0xFF000000#32 ||| BitVec.ofNat 32 red <<< 16) (by omega)
  have hblue := or_channel_toNat (k := 0) hb (by decide)
    (hi := 0xFF000000#32 ||| BitVec.ofNat 32 red <<< 16 ||| BitVec.ofNat 32 green <<< 8) (by omega)
  omega

theorem argbOfWord_toNat (w : Half) :
    (argbOfWord w).toNat =
      0xFF000000 + expandChannel (w.toNat % 8) * 65536 + expandChannel (w.toNat / 8 % 8) * 256 +
        expandChannel (w.toNat / 64 % 8) := by
  rw [argbOfWord, palRed_eq, palGreen_eq, palBlue_eq]
  have hfields := argb_fields_toNat (expandChannel_mod_lt w.toNat) (expandChannel_mod_lt (w.toNat / 8))
    (expandChannel_mod_lt (w.toNat / 64))
  rw [BitVec.shiftLeft_zero] at hfields
  exact hfields

/-- Settles O46, by the fields of a colour and the levels of a channel. -/
theorem colourExpansion : Obligations.ColourExpansion := by
  refine ⟨fun pal e => ?colour, by decide⟩
  case colour =>
    rw [argb, argbOfWord_toNat, littleEndian_toNat]
    rfl

end Sys2Proof.Machine
end

section
/-! The ring under any pushes and pops (spec/46_audio_ring.md R343, R344, R346), what `APU_ADVANCE` schedules and pushes
(R342), and what a run of its calls schedules (R349). -/

namespace Sys2Proof.Machine

/-! ## Pushes and pops as a queue (R346) -/

section Queue

variable {a : Audio} {cap : Nat}

/-- One slot stays free, so that full and empty differ. -/
theorem Audio.contents_length_le (hcap : 0 < cap) : (a.contents cap).length ≤ cap - 1 := by
  have hfill := Audio.fill_lt (a := a) hcap
  rw [Audio.contents_length]
  omega

/-- The ring is empty exactly where the positions are equal. -/
theorem Audio.RingOk.fill_eq_zero_iff (h : a.RingOk cap) : a.fill cap = 0 ↔ a.writePos = a.readPos := by
  have hread : a.readPos.toNat % cap = a.readPos.toNat := Nat.mod_eq_of_lt h.readIn
  constructor
  · intro hfill
    have hwrite := h.readPos_add_fill
    rw [hfill, Nat.add_zero, hread] at hwrite
    exact (BitVec.eq_of_toNat_eq hwrite).symm
  · intro hpos
    refine Audio.fill_eq (Nat.zero_lt_of_lt h.readIn) ?_
    rw [Nat.add_zero, hread, hpos]

theorem Audio.RingOk.act (h : a.RingOk cap) (hu : cap ≤ 2 ^ 32) (x : RingAct) : (a.act cap x).RingOk cap := by
  cases x with
  | push frames => exact h.push hu frames
  | pop n => exact h.pop hu n

/-- An action on the ring is that action on the queue it holds: the counts of R343 and R344 are those of the lists. -/
theorem Audio.RingOk.contents_act (h : a.RingOk cap) (hu : cap ≤ 2 ^ 32) (x : RingAct) :
    (a.act cap x).contents cap = queueAct cap (a.contents cap) x := by
  cases x with
  | push frames =>
    have hcount : frames.take (a.pushCount cap frames.length) = frames.take (cap - 1 - (a.contents cap).length) := by
      rw [Audio.contents_length, Audio.pushCount, Audio.free, Nat.min_comm, ← List.take_eq_take_min]
    exact (h.contents_push hu frames).trans (congrArg _ hcount)
  | pop n =>
    have hcount : (a.contents cap).drop (a.popCount cap n) = (a.contents cap).drop n := by
      rw [Audio.popCount, ← Audio.contents_length (a := a), ← List.drop_eq_drop_min]
    exact (h.contents_pop hu n).trans hcount

/-- The refinement: well-formedness and the queue, carried along a run of actions. -/
theorem Audio.RingOk.acts (hu : cap ≤ 2 ^ 32) (xs : List RingAct) : ∀ {a : Audio}, a.RingOk cap →
    (xs.foldl (fun b x => b.act cap x) a).RingOk cap ∧
      (xs.foldl (fun b x => b.act cap x) a).contents cap = xs.foldl (queueAct cap) (a.contents cap) := by
  induction xs with
  | nil => exact fun h => ⟨h, rfl⟩
  | cons x xs ih =>
    intro a h
    rw [List.foldl_cons, List.foldl_cons, ← h.contents_act hu x]
    exact ih (h.act hu x)

end Queue

/-! ## What `APU_ADVANCE` schedules and pushes (R342) -/

theorem exec_apuAdvance (cycles : Nat) (s : State) : exec (.apuAdvance cycles) s = .next (s.apuAdvance cycles) := rfl

theorem Audio.accumWith_toNat (a : Audio) (cycles : Nat) :
    (a.accumWith cycles).toNat = (a.apuAccum.toNat + cycles * 2 ^ 32) % 2 ^ 64 := by
  rw [Audio.accumWith, BitVec.toNat_add, BitVec.toNat_ofNat, Nat.add_mod_mod]

/-- The loop of R342 is one division. -/
theorem State.apuSchedule_eq {s : State} (hv : s.params.Valid) (cycles : Nat) :
    s.apuSchedule cycles =
      ((s.audio.apuAccum.toNat + cycles * 2 ^ 32) % 2 ^ 64 / cyclesPerSampleFp s.params.sampleRate,
        (s.audio.apuAccum.toNat + cycles * 2 ^ 32) % 2 ^ 64 % cyclesPerSampleFp s.params.sampleRate) := by
  rw [State.apuSchedule, scheduleFrames_eq (cyclesPerSampleFp_pos hv) _ _ le_rfl, Audio.accumWith_toNat]

theorem State.apuDrawn_length (s : State) (count : Nat) : (s.apuDrawn count).length = count := by
  rw [State.apuDrawn, List.length_map, List.length_range]

/-- What fits does not depend on the timebase. This and the next two lemmas speak of any accumulator: on the one
`APU_ADVANCE` leaves, `rfl` would unfold the loop of R342. -/
theorem Audio.pushCount_withAccum (a : Audio) (acc : BitVec 64) (cap count : Nat) :
    ({ a with apuAccum := acc } : Audio).pushCount cap count = a.pushCount cap count := rfl

/-- A push writes slots and the write position, neither of which depends on the timebase. -/
theorem Audio.push_withAccum (a : Audio) (acc : BitVec 64) (cap : Nat) (frames : List Frame) :
    ({ a with apuAccum := acc } : Audio).push cap frames =
      { a with
        apuAccum := acc
        ring := (a.push cap frames).ring
        writePos := (a.push cap frames).writePos } := rfl

/-- What waits in the ring does not depend on the timebase and the overflow counter. -/
theorem Audio.contents_push_withTimebase (a : Audio) (acc : BitVec 64) (dropped cap : Nat) (frames : List Frame) :
    ({ a with
        apuAccum := acc
        ring := (a.push cap frames).ring
        writePos := (a.push cap frames).writePos
        ringOverflowFrames := dropped } : Audio).contents cap = (a.push cap frames).contents cap := rfl

/-- `APU_ADVANCE` is a push of the drawn frames, with the accumulator and the overflow counter of R342 beside it. -/
theorem State.apuAdvance_eq (s : State) (cycles : Nat) :
    s.apuAdvance cycles =
      { s with
        audio.apuAccum := BitVec.ofNat 64 (s.apuSchedule cycles).2
        audio.ring := (s.audio.push s.params.ringCap (s.apuDrawn (s.apuSchedule cycles).1)).ring
        audio.writePos := (s.audio.push s.params.ringCap (s.apuDrawn (s.apuSchedule cycles).1)).writePos
        audio.ringOverflowFrames := s.audio.ringOverflowFrames +
          ((s.apuSchedule cycles).1 - s.audio.pushCount s.params.ringCap (s.apuSchedule cycles).1)
        env.apuFrames := s.env.apuFrames + (s.apuSchedule cycles).1 } := by
  unfold State.apuAdvance
  dsimp only
  rw [Audio.push_withAccum, Audio.pushCount_withAccum]

@[simp] theorem State.apuAdvance_params (s : State) (cycles : Nat) : (s.apuAdvance cycles).params = s.params := by
  rw [State.apuAdvance_rest]

theorem State.apuAdvance_apuFrames {s : State} (hv : s.params.Valid) (cycles : Nat) :
    (s.apuAdvance cycles).env.apuFrames = s.env.apuFrames +
      (s.audio.apuAccum.toNat + cycles * 2 ^ 32) % 2 ^ 64 / cyclesPerSampleFp s.params.sampleRate := by
  rw [State.apuAdvance_eq, State.apuSchedule_eq hv]

/-- The accumulator keeps the remainder, which fits its 64 bits. -/
theorem State.apuAdvance_apuAccum {s : State} (hv : s.params.Valid) (cycles : Nat) :
    (s.apuAdvance cycles).audio.apuAccum.toNat =
      (s.audio.apuAccum.toNat + cycles * 2 ^ 32) % 2 ^ 64 % cyclesPerSampleFp s.params.sampleRate := by
  have hfit : (s.audio.apuAccum.toNat + cycles * 2 ^ 32) % 2 ^ 64 % cyclesPerSampleFp s.params.sampleRate < 2 ^ 64 :=
    (Nat.mod_le _ _).trans_lt (Nat.mod_lt _ (by decide))
  rw [State.apuAdvance_eq, State.apuSchedule_eq hv]
  exact (BitVec.toNat_ofNat _ _).trans (Nat.mod_eq_of_lt hfit)

theorem State.apuAdvance_contents (s : State) (cycles : Nat) :
    (s.apuAdvance cycles).audio.contents s.params.ringCap =
      (s.audio.push s.params.ringCap (s.apuDrawn (s.apuSchedule cycles).1)).contents s.params.ringCap := by
  rw [State.apuAdvance_eq, Audio.contents_push_withTimebase]

theorem State.apuAdvance_ring (s : State) (cycles : Nat) :
    (s.apuAdvance cycles).audio.ring =
      (s.audio.push s.params.ringCap (s.apuDrawn (s.apuSchedule cycles).1)).ring := by
  rw [State.apuAdvance_eq]

theorem State.apuAdvance_writePos (s : State) (cycles : Nat) :
    (s.apuAdvance cycles).audio.writePos =
      (s.audio.push s.params.ringCap (s.apuDrawn (s.apuSchedule cycles).1)).writePos := by
  rw [State.apuAdvance_eq]

/-! ## A run of calls (R349) -/

/-- The CPU's clock is below 2^23 Hz, so at any rate a sample in Q32.32 is well below 2^63. -/
theorem cyclesPerSampleFp_lt {p : Config.Params} (h : p.Valid) : cyclesPerSampleFp p.sampleRate < 2 ^ 63 := by
  have hrate : (1 : Rat) ≤ p.sampleRate := by exact_mod_cast h.rate_pos
  have hclock : Config.cpuHz / p.sampleRate ≤ 2 ^ 23 := by
    refine (div_le_self ?_ hrate).trans ?_ <;> norm_num [Config.cpuHz, Config.masterHz]
  have hfloor : (Config.cpuHz / p.sampleRate * 2 ^ 32 + 1 / 2).floor < 2 ^ 63 := by
    rw [Rat.floor_lt_iff]
    push_cast
    linarith
  unfold cyclesPerSampleFp
  omega

/-- Cycles below 2^31 do not wrap an accumulator that holds less than one sample (R342). -/
theorem accum_add_cycles_mod {p : Config.Params} (hv : p.Valid) {acc cycles : Nat}
    (hacc : acc < cyclesPerSampleFp p.sampleRate) (hc : cycles < 2 ^ 31) :
    (acc + cycles * 2 ^ 32) % 2 ^ 64 = acc + cycles * 2 ^ 32 := by
  have := cyclesPerSampleFp_lt hv
  exact Nat.mod_eq_of_lt (by omega)

/-- A remainder carried to the next division loses no quotient. -/
theorem div_add_mod_add_div {c : Nat} (hpos : 0 < c) (a b : Nat) : a / c + (a % c + b) / c = (a + b) / c := by
  rw [← Nat.mul_add_div hpos, ← Nat.add_assoc, Nat.div_add_mod]

/-- A call has a next state, from which the rest of the calls run. -/
theorem runOps_apuAdvance_cons (s : State) (cycles : Nat) (rest : List Instr) :
    runOps (.apuAdvance cycles :: rest) s = runOps rest (s.apuAdvance cycles) := by
  rw [runOps, exec_apuAdvance]

/-- Counting quotients and keeping remainders call by call is one division of the total. -/
theorem runOps_apuAdvance (budgets : List Nat) : ∀ {s : State}, s.params.Valid →
    s.audio.apuAccum.toNat < cyclesPerSampleFp s.params.sampleRate → (∀ c ∈ budgets, c < 2 ^ 31) →
      ∃ t, runOps (budgets.map .apuAdvance) s = .next t ∧
        t.env.apuFrames = s.env.apuFrames +
          (s.audio.apuAccum.toNat + budgets.sum * 2 ^ 32) / cyclesPerSampleFp s.params.sampleRate ∧
        t.audio.apuAccum.toNat =
          (s.audio.apuAccum.toNat + budgets.sum * 2 ^ 32) % cyclesPerSampleFp s.params.sampleRate := by
  induction budgets with
  | nil =>
    intro s _ hacc _
    exact ⟨s, rfl, by simp [Nat.div_eq_of_lt hacc], by simp [Nat.mod_eq_of_lt hacc]⟩
  | cons c budgets ih =>
    intro s hv hacc hbudgets
    have hpos := cyclesPerSampleFp_pos hv
    have hc := hbudgets c List.mem_cons_self
    have hframes := s.apuAdvance_apuFrames hv c
    have haccum := s.apuAdvance_apuAccum hv c
    rw [accum_add_cycles_mod hv hacc hc] at hframes haccum
    obtain ⟨t, hrun, htframes, htaccum⟩ := ih (s := s.apuAdvance c) (by rwa [State.apuAdvance_params])
      (by rw [State.apuAdvance_params, haccum]; exact Nat.mod_lt _ hpos)
      fun d hd => hbudgets d (List.mem_cons_of_mem _ hd)
    rw [State.apuAdvance_params, haccum] at htframes htaccum
    have htotal : s.audio.apuAccum.toNat + (c :: budgets).sum * 2 ^ 32 =
        s.audio.apuAccum.toNat + c * 2 ^ 32 + budgets.sum * 2 ^ 32 := by
      rw [List.sum_cons, Nat.add_mul, Nat.add_assoc]
    refine ⟨t, (runOps_apuAdvance_cons s c _).trans hrun, ?_, ?_⟩
    · rw [htframes, hframes, htotal, Nat.add_assoc, div_add_mod_add_div hpos]
    · rw [htaccum, htotal, Nat.mod_add_mod]

/-! ## The obligations -/

/-- Settles O52, by induction on the actions; the bounds hold of any ring in order. -/
theorem ringRefinesBoundedQueue : Obligations.RingRefinesBoundedQueue := by
  intro cap a acts hcap hu h
  obtain ⟨hok, hcontents⟩ := Audio.RingOk.acts hu acts h
  exact ⟨hok, hcontents, Audio.contents_length_le (by omega), hok.fill_eq_zero_iff⟩

/-- Settles O53: one division gives the frames and the remainder, and the frames are pushed. -/
theorem apuAdvanceSchedulesAndPushes : Obligations.ApuAdvanceSchedulesAndPushes := by
  intro s cycles hv h
  have hcap : 0 < s.params.ringCap := Nat.zero_lt_of_lt h.writeIn
  have hlength := s.apuDrawn_length (s.apuSchedule cycles).1
  refine ⟨s.apuAdvance cycles, s.apuDrawn (s.apuSchedule cycles).1, _, exec_apuAdvance cycles s,
    ?count, s.apuAdvance_apuAccum hv cycles, rfl, ?contents, ?writePos, ?slots, ?others, ?frame⟩
  case count => rw [hlength, State.apuSchedule_eq hv]
  case contents => exact (s.apuAdvance_contents cycles).trans (h.contents_push hv.cap_u32 _)
  case writePos => rw [State.apuAdvance_writePos]; exact Audio.push_writePos hcap hv.cap_u32 _
  case slots => rw [State.apuAdvance_ring]; exact Audio.push_ring_length _
  case others => rw [State.apuAdvance_ring]; exact fun _ => Audio.push_ring_other _
  case frame =>
    rw [hlength, State.apuAdvance_eq]
    rfl

/-- Settles O54, by induction on the calls, from an accumulator of 0. -/
theorem rateLaw : Obligations.RateLaw := by
  refine ⟨fun s budgets hv hzero hbudgets => ?run, ?rate, by decide, by decide⟩
  case run =>
    have haccum : s.audio.apuAccum.toNat = 0 := by rw [hzero]; rfl
    have hrun := runOps_apuAdvance budgets hv (haccum ▸ cyclesPerSampleFp_pos hv) hbudgets
    rwa [haccum, Nat.zero_add] at hrun
  case rate =>
    have hfloor : (Config.cpuHz / (48000 : Nat) * 2 ^ 32 + 1 / 2).floor = 480438397174 := by
      refine le_antisymm (Int.lt_add_one_iff.1 (Rat.floor_lt_iff.2 ?_)) (Rat.le_floor_iff.2 ?_) <;>
        norm_num [Config.cpuHz, Config.masterHz]
    rw [cyclesPerSampleFp, hfloor]
    rfl

end Sys2Proof.Machine
end

section
/-! Proofs of the statements of spec/70_reset_and_hazards.md: `RESET` (R390, R392), `POWER_ON` (R391) and `LOAD_ROM`
(R393), and of the invariant at the reset state (spec/60_exceptions.md R362). -/

namespace Sys2Proof.Machine

/-! ## What the host's operations do -/

theorem exec_reset (s : State) : exec .reset s = .next s.resetBlock := rfl

/-- What `POWER_ON` empties before it does what `RESET` does (R391). -/
def State.emptied (s : State) : State :=
  { s with
    ppu.fb := Ppu.reset.fb
    audio := Audio.powerOn s.params.ringCap
    rom := [] }

theorem exec_powerOn (s : State) : exec .powerOn s = .next (s.emptied.resetBlock.answer (.bool true)) := rfl

/-- An image that fits becomes the ROM (R393). -/
theorem exec_loadRom_of_le {bytes : List Byte} (h : bytes.length ≤ Config.romMax) (s : State) :
    exec (.loadRom bytes) s = .next { s with rom := bytes, env.reply := .bool true } :=
  if_neg (Nat.not_lt.2 h)

/-- A larger image is refused (R393). -/
theorem exec_loadRom_of_lt {bytes : List Byte} (h : Config.romMax < bytes.length) (s : State) :
    exec (.loadRom bytes) s = .next { s with env.reply := .bool false } :=
  if_pos h

/-! ## The reset values -/

/-- `RESET` twice is `RESET` once (R392). -/
theorem State.resetBlock_resetBlock (s : State) : s.resetBlock.resetBlock = s.resetBlock := rfl

/-- The model's reset state is what `RESET` makes of it. -/
theorem State.resetBlock_reset : State.reset.resetBlock = State.reset := rfl

/-- In the model's reset state there is nothing to empty. -/
theorem State.emptied_reset : State.reset.emptied = State.reset := rfl

/-- Every colour after a reset is opaque black (R390). -/
theorem Ppu.reset_activeArgb (e : Fin 128) : Ppu.reset.activeArgb[e] = 0xFF000000 :=
  Vector.getElem_replicate e.isLt

/-- Every pixel after power-on is 0 (R391). -/
theorem Ppu.reset_fb (y : Fin 192) (x : Fin 256) : Ppu.reset.fb[y][x] = 0 :=
  calc Ppu.reset.fb[y][x]
      _ = (Vector.replicate 256 (0 : Argb))[x] := congrArg (·[x]) (Vector.getElem_replicate y.isLt)
      _ = 0 := Vector.getElem_replicate x.isLt

/-! ## The invariant at the reset state (R362) -/

/-- The default parameters are legal (R8). -/
theorem State.reset_params_valid : State.reset.params.Valid where
  cpl_pos := by
    show 0 < Config.defaultCpl
    norm_num [Config.defaultCpl, Config.cpuHz, Config.masterHz, Config.lineHz]
  overshoot_pos := by decide
  rate_pos := by decide
  rate_bound := by decide
  cap_two := by decide
  cap_pow := ⟨12, rfl⟩
  cap_u32 := by decide

theorem State.reset_inv : State.reset.Inv := by
  have hcap : 0 < State.reset.params.ringCap := by decide
  rw [← State.resetBlock_reset]
  exact .of_reset State.reset_params_valid (Audio.ringOk_powerOn hcap) (Nat.zero_le _)

/-- At line 0 the VBlank flag may be either (R143). -/
theorem State.reset_vblankPhase : State.reset.VblankPhase :=
  ⟨fun _ => .inr rfl, fun h => absurd h (by decide)⟩

/-! ## The obligations -/

/-- Settles O59: the reset state is what `RESET` makes of it, and `RESET` leaves the invariant. -/
theorem resetMeetsInvariant : Obligations.ResetMeetsInvariant :=
  ⟨State.reset_inv, State.reset_vblankPhase, Irq.reset_settled⟩

/-- Settles O56: each element is the reset value or the one before, memories are empty, and `RESET` is idempotent. -/
theorem resetWritesEveryElement : Obligations.ResetWritesEveryElement := by
  intro s
  have hempty (a : Nat) : Memory.read [] a = 0 := Memory.read_nil a
  have hagain : exec .reset s.resetBlock = .next s.resetBlock := by rw [exec_reset, State.resetBlock_resetBlock]
  exact ⟨s.resetBlock, exec_reset s,
    rfl, rfl, rfl, rfl, rfl, rfl, rfl, -- the scheduler
    rfl, rfl, hempty, hempty, Ppu.reset_activeArgb, rfl, hempty, rfl, rfl, -- the PPU
    rfl, rfl, rfl, rfl, hempty, -- IRQ, DMA, audio and work RAM
    rfl, rfl, rfl, rfl, rfl, rfl, rfl, rfl, -- what it leaves
    hagain⟩

/-- Settles O57: `POWER_ON` is `RESET` of the emptied state, which differs in framebuffer, audio and ROM only. -/
theorem powerOnEmptiesAndResets : Obligations.PowerOnEmptiesAndResets := by
  refine ⟨fun s => ?every, ?reset⟩
  case every =>
    exact ⟨s.emptied.resetBlock.answer (.bool true), s.resetBlock, exec_powerOn s, rfl, Ppu.reset_fb,
      rfl, rfl, rfl, rfl, rfl, rfl, exec_reset s, rfl, rfl⟩
  case reset =>
    rw [exec_powerOn, State.emptied_reset, State.resetBlock_reset]
    rfl

/-- Settles O58, by whether the image fits. -/
theorem loadRomCopiesOrRefuses : Obligations.LoadRomCopiesOrRefuses := by
  intro s bytes
  split
  · rename_i hfits
    exact exec_loadRom_of_le hfits s
  · rename_i hlarge
    exact exec_loadRom_of_lt (Nat.lt_of_not_le hlarge) s

end Sys2Proof.Machine
end
